-- ==== Sys2Proof/Word.lean ====
section
/-! DEFINITION. The words and records of HLC: bytes, nibbles, frames, the actuation state, key codes, the states of the
two state machines (00_scope.md R12; 10_state.md R21 to R30; 30_encoding.md R70 to R83). -/

namespace Sys2Proof

/-- `byte`, `u8` (R12). -/
abbrev Byte := BitVec 8

/-- `nibble`, `u4` (R12). -/
abbrev Nibble := BitVec 4

/-- The 3-bit syndrome: bit 0 = s0, bit 1 = s1, bit 2 = s2 (R72). -/
abbrev Syndrome := BitVec 3

/-- `u16` (R12). -/
abbrev U16 := BitVec 16

/-- The four bytes of a sender address, in the order of R48. -/
abbrev Address := Vector Byte 4

/-- An UnencodedFrame: 16 bytes, byte 0 first (R76). -/
abbrev Frame := Vector Byte 16

/-- An EncodedFrame: 32 bytes, byte 0 first (R82). -/
abbrev EncFrame := Vector Byte 32

/-- The 16 values of the 4-bit key code (R74): the 13 key events, and the three unrecognised codes of R92. -/
inductive Key where
  | k0 | k1 | k2 | k3 | k4 | k5 | k6 | k7 | k8 | k9
  | ka | kb | kc
  | unrecD | unrecE | unrecF
  deriving DecidableEq, Repr, Inhabited

/-- ActuationState (R21). -/
structure Act where
  /-- `act.x` -/
  x : U16
  /-- `act.y` -/
  y : U16
  /-- `act.z` -/
  z : Byte
  /-- `act.angle` -/
  angle : Byte
  /-- `act.on`, the source's `actuatorOn` -/
  on : Bool
  deriving DecidableEq, Repr, Inhabited

/-- `ctrl_state` (R22). -/
inductive CtrlState where
  | init | idle | displaying | transmitting
  deriving DecidableEq, Repr, Inhabited

/-- `link_state` (R23). -/
inductive LinkState where
  | init | idle | encode | transmit
  deriving DecidableEq, Repr, Inhabited

/-- DisplayCommand, the record handed to the display collaborator (R30, R83). -/
structure DisplayCommand where
  cursorCol : Byte
  cursorRow : Byte
  label : String
  z : Byte
  angle : Byte
  deriving DecidableEq, Repr, Inhabited

/-- The two consistent repairs of the source's codec (90_conflicts.md C1). -/
inductive Variant where
  /-- the encoder as printed; the variant in force (D1) -/
  | a
  /-- the decoder as printed -/
  | b
  deriving DecidableEq, Repr, Inhabited

/-- `PARITY_FAULT_SENSE`: which parity outcome `has_parity_fault` reports as true (R112). -/
inductive ParityFaultSense where
  | trueOnMatch
  | trueOnMismatch
  deriving DecidableEq, Repr, Inhabited

end Sys2Proof
end

