-- ==== Sys2Proof/Syntax.lean ====
section
/-! DEFINITION. The operations of HLC, one constructor for each row of spec/opcode_table.json (30_encoding.md R87), the
form in which an operation is presented to the block, and the choices of the environment (R97, R285). -/

namespace Sys2Proof

/-- The operations of HLC with their operands, in the order of the table. -/
inductive Instr where
  /-- `ENCN`, R101 -/
  | encn (n : Nibble)
  /-- `DECN`, R106 -/
  | decn (r : Byte)
  /-- `PARCHK`, R111 -/
  | parchk (r : Byte)
  /-- `ENCB`, R114 -/
  | encb (b : Byte)
  /-- `DECB`, R115; `r0` is the first (low-nibble) codeword -/
  | decb (r0 r1 : Byte)
  /-- `SYN0`, R108: the row of the correction table for this syndrome, on the received codeword `r` -/
  | syn0 (r : Byte)
  /-- `SYN1`, R108 -/
  | syn1 (r : Byte)
  /-- `SYN2`, R108 -/
  | syn2 (r : Byte)
  /-- `SYN3`, R108 -/
  | syn3 (r : Byte)
  /-- `SYN4`, R108 -/
  | syn4 (r : Byte)
  /-- `SYN5`, R108 -/
  | syn5 (r : Byte)
  /-- `SYN6`, R108 -/
  | syn6 (r : Byte)
  /-- `SYN7`, R108 -/
  | syn7 (r : Byte)
  /-- `DIG3`, R130 -/
  | dig3 (v : U16)
  /-- `DIG2`, R131 -/
  | dig2 (v : Byte)
  /-- `BUILD_XYZ`, R134 -/
  | buildXyz (addr : Address) (x y : U16) (z : Byte)
  /-- `BUILD_ROT`, R135 -/
  | buildRot (addr : Address) (angle : Byte)
  /-- `BUILD_VON`, R136 -/
  | buildVon (addr : Address)
  /-- `BUILD_VOFF`, R137 -/
  | buildVoff (addr : Address)
  /-- `BUILD_VAC`, R138 -/
  | buildVac (addr : Address) (on : Bool)
  /-- `BUILD_JOIN`, R139 -/
  | buildJoin (addr : Address)
  /-- `ENCF`, R151 -/
  | encf (u : Frame)
  /-- `DECF`, R153 -/
  | decf (r : EncFrame)
  /-- `TAG_JOIN`, R73 -/
  | tagJoin
  /-- `TAG_XYZ`, R73 -/
  | tagXyz
  /-- `TAG_ROT`, R73 -/
  | tagRot
  /-- `TAG_VAC`, R73 -/
  | tagVac
  /-- `K1`, R174 -/
  | k1
  /-- `K2`, R175 -/
  | k2
  /-- `K3`, R176 -/
  | k3
  /-- `K4`, R177 -/
  | k4
  /-- `K5`, R178 -/
  | k5
  /-- `K6`, R179 -/
  | k6
  /-- `K7`, R180 -/
  | k7
  /-- `K8`, R181 -/
  | k8
  /-- `K9`, R182 -/
  | k9
  /-- `KA`, R183 -/
  | ka
  /-- `KB`, R184 -/
  | kb
  /-- `KC`, R185 -/
  | kc
  /-- `K0`, R186 -/
  | k0
  /-- `KUNREC`, code 0xD, R187 -/
  | kunrecD
  /-- `KUNREC`, code 0xE, R187 -/
  | kunrecE
  /-- `KUNREC`, code 0xF, R187 -/
  | kunrecF
  /-- `C_INIT`, R166 -/
  | cInit
  /-- `C_IDLE`, R167 -/
  | cIdle
  /-- `C_DISPLAYING`, R168 -/
  | cDisplaying
  /-- `C_TRANSMITTING`, R169 -/
  | cTransmitting
  /-- `L_INIT`, R211 -/
  | lInit
  /-- `L_IDLE`, R212 -/
  | lIdle
  /-- `L_ENCODE`, R213 -/
  | lEncode
  /-- `L_TRANSMIT`, R214 -/
  | lTransmit
  /-- `JOIN_TRIGGER`, R251 -/
  | joinTrigger
  /-- `RESET`, R270 -/
  | reset
  deriving DecidableEq, Repr

/-- What selects an operation (the `selected_by` column of R87). The patterns of different groups overlap, so an
operation is its port together with its bits (log entry 2). -/
inductive Port where
  /-- the encode port: `ENCN` -/
  | encodeNibble
  /-- the decode port: `DECN` -/
  | decodeNibble
  /-- the decode port: `PARCHK` -/
  | parityCheck
  /-- `ENCB` -/
  | encodeByte
  /-- `DECB` -/
  | decodeByte
  /-- the 3-bit syndrome: `SYN0` to `SYN7` -/
  | syndrome
  /-- `DIG3` -/
  | digits3
  /-- `DIG2` -/
  | digits2
  /-- a frame recognised by its layout (R89): the five `BUILD_` rows with a 128-bit pattern -/
  | frame
  /-- `BUILD_VAC` -/
  | buildVac
  /-- `ENCF` -/
  | encodeFrame
  /-- `DECF` -/
  | decodeFrame
  /-- frame byte 0: the four tags -/
  | tag
  /-- the 4-bit key code: `K0` to `KC`, `KUNREC` -/
  | key
  /-- `ctrl_state`: the four Controller steps -/
  | ctrlState
  /-- `link_state`: the four Radio Link steps -/
  | linkState
  /-- the event `join_trigger` -/
  | joinTrigger
  /-- the event `rst` -/
  | rst
  deriving DecidableEq, Repr, Inhabited

/-- An operation as it is presented to HLC: its port and its bytes, in the order in which they are given. -/
structure OpWord where
  port : Port
  bytes : List Byte
  deriving DecidableEq, Repr, Inhabited

/-- One choice of the scheduler and the environment: which agent moves next, and what the environment supplies with it
(the stimulus lines of R97; R285). -/
inductive Stimulus where
  /-- `ctrl` and `ctrl Kx`: the Controller takes a step; `KeyPoll()` answers `key`; `expired` says whether a bounded
  wait on a full queue has run out (R190) -/
  | ctrl (key : Option Key) (expired : Bool)
  /-- `link`: the Radio Link takes a step -/
  | link
  /-- `join`: the environment raises `join_trigger` -/
  | join
  /-- `rst`: reset -/
  | rst
  /-- an operation word is presented at its port: the stand-alone use of a function of the block (R43, R44) -/
  | use (w : OpWord)
  deriving DecidableEq, Repr, Inhabited

end Sys2Proof
end

