-- ==== Sys2Proof/Config.lean ====
section
/-! DEFINITION. The parameters of HLC (00_scope.md R10): the values the specification decides, and the free values it
leaves open, which are opaque constants with no body. -/

namespace Sys2Proof.Config

/-- `QUEUE_DEPTH`: frames the outbound queue holds (R10). -/
def queueDepth : Nat := 10

/-- `HAMMING_VARIANT`: variant A is in force (92_eei_decisions.md D1; log entry 12). -/
def hammingVariant : Variant := .a

/-- `GRID`: the point each grid key selects (43_controller_fsm.md R173, decision D5; log entry 14); none for the other
keys. -/
def gridPoint : Key → Option (U16 × U16)
  | .k1 => some (0, 150)
  | .k2 => some (75, 150)
  | .k3 => some (150, 150)
  | .k4 => some (0, 75)
  | .k5 => some (75, 75)
  | .k6 => some (150, 75)
  | .k7 => some (0, 0)
  | .k8 => some (75, 0)
  | .k9 => some (150, 0)
  | .k0 | .ka | .kb | .kc | .unrecD | .unrecE | .unrecF => none

/-- `SENDER_ADDR`, OPEN (R10, D11): what the static input holds from reset on (log entry 9). -/
opaque senderAddr : Address

/-- `PARITY_FAULT_SENSE`, OPEN (R112, D2; log entry 10). -/
opaque parityFaultSense : ParityFaultSense

/-- `CURSOR_GRID`, OPEN (R188, D6; log entry 11): column and row for a grid key. -/
opaque cursorGrid : Key → Byte × Byte

/-- `CURSOR_OTHER`, OPEN (R188, D6; log entry 11): column and row for a key that is no grid key. -/
opaque cursorOther : Key → Act → Byte × Byte

/-- `LABEL`, OPEN (R188, D7; log entry 11). -/
opaque label : Key → Act → String

/-- `T_QWAIT`, OPEN (R190, D17, U11; log entry 7): how many steps the Controller can wait on a full queue at most, for
each key accepted. That it is a number makes every wait bounded. -/
opaque queueWait : Nat → Nat

/-- What a digit byte 0x3A to 0x3F of a frame stands for, which the specification does not say (R89, R94; log entry
18). -/
opaque nonDecimalDigit : Byte → Nat

/-- The angle of a ROT frame whose three digits exceed a u8, which the specification does not say (R78, R89; log entry
18). -/
opaque angleBeyondByte : Nat → Byte

/-- The scheduler and the environment, OPEN (R250, R258, R285; U9, U13; log entry 3): the choice taken at each tick at
which none is placed in the state. -/
opaque environment : Nat → Stimulus

end Sys2Proof.Config
end

