-- ==== Sys2Proof/WellFormed.lean ====
section
/-! DEFINITION. Which operations have an encoding: the digit fields of a frame hold three digits for x and y and two for
z (30_encoding.md R77), so a `BUILD_XYZ` whose values lose digits (R130, R131) has a meaning and no word of its own. -/

namespace Sys2Proof

/-- Three decimal digits hold the value exactly (R77, R130). -/
def fitsThreeDigits (v : U16) : Bool := decide (v.toNat < 1000)

/-- Two decimal digits hold the value exactly (R77, R131). -/
def fitsTwoDigits (v : Byte) : Bool := decide (v.toNat < 100)

/-- The well-formed operations: those whose operands every field of their encoding holds. -/
def Instr.wellFormed : Instr → Bool
  | .buildXyz _ x y z => fitsThreeDigits x && fitsThreeDigits y && fitsTwoDigits z
  | .encn _ | .decn _ | .parchk _ | .encb _ | .decb _ _ => true
  | .syn0 _ | .syn1 _ | .syn2 _ | .syn3 _ | .syn4 _ | .syn5 _ | .syn6 _ | .syn7 _ => true
  | .dig3 _ | .dig2 _ => true
  | .buildRot _ _ | .buildVon _ | .buildVoff _ | .buildVac _ _ | .buildJoin _ => true
  | .encf _ | .decf _ => true
  | .tagJoin | .tagXyz | .tagRot | .tagVac => true
  | .k1 | .k2 | .k3 | .k4 | .k5 | .k6 | .k7 | .k8 | .k9 | .ka | .kb | .kc | .k0 => true
  | .kunrecD | .kunrecE | .kunrecF => true
  | .cInit | .cIdle | .cDisplaying | .cTransmitting => true
  | .lInit | .lIdle | .lEncode | .lTransmit => true
  | .joinTrigger | .reset => true

end Sys2Proof
end

