-- ==== Sys2Proof/Decode.lean ====
section
/-! DEFINITION. From operation words to operations and back (30_encoding.md R70 to R94, spec/opcode_table.json). The
decoder is total and rejects by name; the encoder is written from the same table. -/

namespace Sys2Proof

/-- Why an operation word is rejected. -/
inductive DecodeError where
  /-- the word has not the number of bytes its port takes -/
  | badLength
  /-- a bit above the pattern of the row is set -/
  | reservedBits
  /-- the byte is none of the four message-type tags (R90) -/
  | unknownTag
  /-- the 16 bytes have none of the five layouts (R89) -/
  | unknownLayout
  /-- the layout is recognised, and the row's mask does not match: the high nibble of a digit byte is not 3, or a byte of
  the padding is not 0 (R89, R93) -/
  | frameBits
  deriving DecidableEq, Repr

/-! ### Codes -/

/-- The 4-bit code of a key (R74). -/
def Key.code : Key → BitVec 4
  | .k0 => 0x0
  | .k1 => 0x1
  | .k2 => 0x2
  | .k3 => 0x3
  | .k4 => 0x4
  | .k5 => 0x5
  | .k6 => 0x6
  | .k7 => 0x7
  | .k8 => 0x8
  | .k9 => 0x9
  | .ka => 0xA
  | .kb => 0xB
  | .kc => 0xC
  | .unrecD => 0xD
  | .unrecE => 0xE
  | .unrecF => 0xF

/-- The 2-bit code of `ctrl_state` (R75). -/
def CtrlState.code : CtrlState → BitVec 2
  | .init => 0
  | .idle => 1
  | .displaying => 2
  | .transmitting => 3

/-- The 2-bit code of `link_state` (R75). -/
def LinkState.code : LinkState → BitVec 2
  | .init => 0
  | .idle => 1
  | .encode => 2
  | .transmit => 3

/-- The decimal digit of `v` at the power of ten `p`, in ASCII (R86): `(v / p) % 10 + '0'`. -/
def asciiDigit (v p : Nat) : Byte := BitVec.ofNat 8 (v / p % 10 + 0x30)

/-! ### Decoding -/

/-- The layouts of an UnencodedFrame (R77 to R81). -/
inductive Layout where
  | xyz | rot | von | voff | join
  deriving DecidableEq, Repr

/-- Recognising the layout of a frame from its tag and its string (R89). -/
def frameLayout (f : Frame) : Option Layout :=
  if f[0] = 0x22 ∧ f[5] = 0x58 ∧ f[6] = 0x59 ∧ f[7] = 0x5A then some .xyz
  else if f[0] = 0x23 ∧ f[5] = 0x52 ∧ f[6] = 0x4F ∧ f[7] = 0x54 then some .rot
  else if f[0] = 0x24 ∧ f[5] = 0x56 ∧ f[6] = 0x4F ∧ f[7] = 0x4E ∧ f[8] = 0x00 then some .von
  else if f[0] = 0x24 ∧ f[5] = 0x56 ∧ f[6] = 0x4F ∧ f[7] = 0x46 ∧ f[8] = 0x46 then some .voff
  else if f[0] = 0x20 ∧ f[5] = 0x4A ∧ f[6] = 0x4F ∧ f[7] = 0x49 ∧ f[8] = 0x4E then some .join
  else none

/-- The `n` bytes from offset `o` on are digit bytes: "of each digit byte only the high nibble (0x3) is matched" (R89). -/
def digitBytes (f : Frame) (o n : Nat) : Bool := ((f.toList.drop o).take n).all fun b => b.extractLsb' 4 4 == 0x3

/-- Bytes `o` to 15 of a frame are 0x00 (R93). -/
def zeroFrom (f : Frame) (o : Nat) : Bool := (f.toList.drop o).all (· == 0x00)

/-- What the mask of a row matches beside the tag and the string: the digit bytes and the zero padding (R89). -/
def layoutBits (f : Frame) : Layout → Bool
  | .xyz => digitBytes f 8 8
  | .rot => digitBytes f 8 3 && zeroFrom f 11
  | .von => zeroFrom f 8
  | .voff => zeroFrom f 9
  | .join => zeroFrom f 9

/-- The value of a digit byte: '0' to '9' are the digits (R94); for another byte a free value (log entry 18). -/
def digitValue (b : Byte) : Nat :=
  if 0x30 ≤ b.toNat ∧ b.toNat ≤ 0x39 then b.toNat - 0x30 else Config.nonDecimalDigit b

/-- The value of three digit bytes, hundreds first (R51). -/
def threeDigitsValue (h t o : Byte) : Nat := 100 * digitValue h + 10 * digitValue t + digitValue o

/-- The value of two digit bytes, tens first (R51). -/
def twoDigitsValue (t o : Byte) : Nat := 10 * digitValue t + digitValue o

/-- The angle of three digits (R78); for a number that is no u8 a free value (log entry 18). -/
def angleValue (v : Nat) : Byte := if v < 256 then BitVec.ofNat 8 v else Config.angleBeyondByte v

/-- The address field of a frame (R76). -/
def frameAddress (f : Frame) : Address := #v[f[1], f[2], f[3], f[4]]

/-- The builder whose frame this is, its operands read back from the fields of the layout (R77 to R81). -/
def layoutOperation (f : Frame) : Layout → Instr
  | .xyz => .buildXyz (frameAddress f) (BitVec.ofNat 16 (threeDigitsValue f[8] f[9] f[10]))
      (BitVec.ofNat 16 (threeDigitsValue f[11] f[12] f[13])) (BitVec.ofNat 8 (twoDigitsValue f[14] f[15]))
  | .rot => .buildRot (frameAddress f) (angleValue (threeDigitsValue f[8] f[9] f[10]))
  | .von => .buildVon (frameAddress f)
  | .voff => .buildVoff (frameAddress f)
  | .join => .buildJoin (frameAddress f)

/-- The builder row whose match and mask a frame meets (R89). -/
def decodeFrameLayout (f : Frame) : Except DecodeError Instr :=
  match frameLayout f with
  | none => .error .unknownLayout
  | some l => if layoutBits f l then .ok (layoutOperation f l) else .error .frameBits

/-- `n` bytes as an array, or a rejection. -/
def takeBytes (n : Nat) (bs : List Byte) : Except DecodeError (Vector Byte n) :=
  if h : bs.length = n then .ok ⟨bs.toArray, by simpa using h⟩ else .error .badLength

/-- A byte that must be below `2 ^ n`: its low `n` bits. -/
def lowBits (n : Nat) (b : Byte) : Except DecodeError (BitVec n) :=
  if b.toNat < 2 ^ n then .ok (b.setWidth n) else .error .reservedBits

/-- The row of the correction table for a syndrome (R108). -/
def decodeSyndrome (s : Syndrome) (r : Byte) : Instr :=
  match s.toNat with
  | 0 => .syn0 r
  | 1 => .syn1 r
  | 2 => .syn2 r
  | 3 => .syn3 r
  | 4 => .syn4 r
  | 5 => .syn5 r
  | 6 => .syn6 r
  | _ => .syn7 r

/-- The key event of a key code (R74, R92). -/
def decodeKey (c : BitVec 4) : Instr :=
  match c.toNat with
  | 0x0 => .k0
  | 0x1 => .k1
  | 0x2 => .k2
  | 0x3 => .k3
  | 0x4 => .k4
  | 0x5 => .k5
  | 0x6 => .k6
  | 0x7 => .k7
  | 0x8 => .k8
  | 0x9 => .k9
  | 0xA => .ka
  | 0xB => .kb
  | 0xC => .kc
  | 0xD => .kunrecD
  | 0xE => .kunrecE
  | _ => .kunrecF

/-- The message type of a tag byte (R73, R90). -/
def decodeTag (t : Byte) : Except DecodeError Instr :=
  if t = 0x20 then .ok .tagJoin
  else if t = 0x22 then .ok .tagXyz
  else if t = 0x23 then .ok .tagRot
  else if t = 0x24 then .ok .tagVac
  else .error .unknownTag

/-- The Controller step a `ctrl_state` code selects (R75, R87). -/
def decodeCtrlState (c : BitVec 2) : Instr :=
  match c.toNat with
  | 0 => .cInit
  | 1 => .cIdle
  | 2 => .cDisplaying
  | _ => .cTransmitting

/-- The Radio Link step a `link_state` code selects (R75, R87). -/
def decodeLinkState (c : BitVec 2) : Instr :=
  match c.toNat with
  | 0 => .lInit
  | 1 => .lIdle
  | 2 => .lEncode
  | _ => .lTransmit

/-- A word of one byte. -/
def oneByte (bs : List Byte) (k : Byte → Except DecodeError Instr) : Except DecodeError Instr :=
  match bs with
  | [b] => k b
  | _ => .error .badLength

/-- A word of two bytes. -/
def twoBytes (bs : List Byte) (k : Byte → Byte → Except DecodeError Instr) : Except DecodeError Instr :=
  match bs with
  | [b0, b1] => k b0 b1
  | _ => .error .badLength

/-- A word of one byte of which the low `n` bits are the pattern. -/
def oneField (n : Nat) (bs : List Byte) (k : BitVec n → Except DecodeError Instr) : Except DecodeError Instr :=
  oneByte bs fun b =>
    match lowBits n b with
    | .ok v => k v
    | .error e => .error e

/-- The operation of an operation word (R87). -/
def decode (w : OpWord) : Except DecodeError Instr :=
  match w.port with
  | .encodeNibble => oneField 4 w.bytes fun n => .ok (.encn n)
  | .decodeNibble => oneByte w.bytes fun r => .ok (.decn r)
  | .parityCheck => oneByte w.bytes fun r => .ok (.parchk r)
  | .encodeByte => oneByte w.bytes fun b => .ok (.encb b)
  | .decodeByte => twoBytes w.bytes fun r0 r1 => .ok (.decb r0 r1)
  | .syndrome => twoBytes w.bytes fun s r =>
    match lowBits 3 s with
    | .ok v => .ok (decodeSyndrome v r)
    | .error e => .error e
  | .digits3 => twoBytes w.bytes fun lo hi => .ok (.dig3 (hi ++ lo))
  | .digits2 => oneByte w.bytes fun v => .ok (.dig2 v)
  | .frame =>
    match takeBytes 16 w.bytes with
    | .ok f => decodeFrameLayout f
    | .error e => .error e
  | .buildVac =>
    match w.bytes with
    | [o, a0, a1, a2, a3] =>
      match lowBits 1 o with
      | .ok v => .ok (.buildVac #v[a0, a1, a2, a3] (v == 1))
      | .error e => .error e
    | _ => .error .badLength
  | .encodeFrame =>
    match takeBytes 16 w.bytes with
    | .ok u => .ok (.encf u)
    | .error e => .error e
  | .decodeFrame =>
    match takeBytes 32 w.bytes with
    | .ok r => .ok (.decf r)
    | .error e => .error e
  | .tag => oneByte w.bytes decodeTag
  | .key => oneField 4 w.bytes fun c => .ok (decodeKey c)
  | .ctrlState => oneField 2 w.bytes fun c => .ok (decodeCtrlState c)
  | .linkState => oneField 2 w.bytes fun c => .ok (decodeLinkState c)
  | .joinTrigger => if w.bytes = [] then .ok .joinTrigger else .error .badLength
  | .rst => if w.bytes = [] then .ok .reset else .error .badLength

/-! ### Encoding -/

/-- A frame word: tag, address, payload (R76). -/
def frameWord (t : Byte) (a : Address) (payload : List Byte) : OpWord :=
  ⟨.frame, t :: a.toList ++ payload⟩

/-- The word of an operation (R87): its port and its bytes. -/
def encode : Instr → OpWord
  | .encn n => ⟨.encodeNibble, [n.setWidth 8]⟩
  | .decn r => ⟨.decodeNibble, [r]⟩
  | .parchk r => ⟨.parityCheck, [r]⟩
  | .encb b => ⟨.encodeByte, [b]⟩
  | .decb r0 r1 => ⟨.decodeByte, [r0, r1]⟩
  | .syn0 r => ⟨.syndrome, [0x00, r]⟩
  | .syn1 r => ⟨.syndrome, [0x01, r]⟩
  | .syn2 r => ⟨.syndrome, [0x02, r]⟩
  | .syn3 r => ⟨.syndrome, [0x03, r]⟩
  | .syn4 r => ⟨.syndrome, [0x04, r]⟩
  | .syn5 r => ⟨.syndrome, [0x05, r]⟩
  | .syn6 r => ⟨.syndrome, [0x06, r]⟩
  | .syn7 r => ⟨.syndrome, [0x07, r]⟩
  | .dig3 v => ⟨.digits3, [v.setWidth 8, (v >>> 8).setWidth 8]⟩
  | .dig2 v => ⟨.digits2, [v]⟩
  | .buildXyz a x y z => frameWord 0x22 a
      [0x58, 0x59, 0x5A,
       asciiDigit x.toNat 100, asciiDigit x.toNat 10, asciiDigit x.toNat 1,
       asciiDigit y.toNat 100, asciiDigit y.toNat 10, asciiDigit y.toNat 1,
       asciiDigit z.toNat 10, asciiDigit z.toNat 1]
  | .buildRot a v => frameWord 0x23 a
      [0x52, 0x4F, 0x54, asciiDigit v.toNat 100, asciiDigit v.toNat 10, asciiDigit v.toNat 1, 0, 0, 0, 0, 0]
  | .buildVon a => frameWord 0x24 a [0x56, 0x4F, 0x4E, 0, 0, 0, 0, 0, 0, 0, 0]
  | .buildVoff a => frameWord 0x24 a [0x56, 0x4F, 0x46, 0x46, 0, 0, 0, 0, 0, 0, 0]
  | .buildVac a on => ⟨.buildVac, (if on then 0x01 else 0x00) :: a.toList⟩
  | .buildJoin a => frameWord 0x20 a [0x4A, 0x4F, 0x49, 0x4E, 0, 0, 0, 0, 0, 0, 0]
  | .encf u => ⟨.encodeFrame, u.toList⟩
  | .decf r => ⟨.decodeFrame, r.toList⟩
  | .tagJoin => ⟨.tag, [0x20]⟩
  | .tagXyz => ⟨.tag, [0x22]⟩
  | .tagRot => ⟨.tag, [0x23]⟩
  | .tagVac => ⟨.tag, [0x24]⟩
  | .k1 => ⟨.key, [0x01]⟩
  | .k2 => ⟨.key, [0x02]⟩
  | .k3 => ⟨.key, [0x03]⟩
  | .k4 => ⟨.key, [0x04]⟩
  | .k5 => ⟨.key, [0x05]⟩
  | .k6 => ⟨.key, [0x06]⟩
  | .k7 => ⟨.key, [0x07]⟩
  | .k8 => ⟨.key, [0x08]⟩
  | .k9 => ⟨.key, [0x09]⟩
  | .ka => ⟨.key, [0x0A]⟩
  | .kb => ⟨.key, [0x0B]⟩
  | .kc => ⟨.key, [0x0C]⟩
  | .k0 => ⟨.key, [0x00]⟩
  | .kunrecD => ⟨.key, [0x0D]⟩
  | .kunrecE => ⟨.key, [0x0E]⟩
  | .kunrecF => ⟨.key, [0x0F]⟩
  | .cInit => ⟨.ctrlState, [0x00]⟩
  | .cIdle => ⟨.ctrlState, [0x01]⟩
  | .cDisplaying => ⟨.ctrlState, [0x02]⟩
  | .cTransmitting => ⟨.ctrlState, [0x03]⟩
  | .lInit => ⟨.linkState, [0x00]⟩
  | .lIdle => ⟨.linkState, [0x01]⟩
  | .lEncode => ⟨.linkState, [0x02]⟩
  | .lTransmit => ⟨.linkState, [0x03]⟩
  | .joinTrigger => ⟨.joinTrigger, []⟩
  | .reset => ⟨.rst, []⟩

/-! ### The table's words -/

/-- The bytes of a number of `n` bytes, the least significant first. -/
def bytesOfNat : Nat → Nat → List Byte
  | 0, _ => []
  | n + 1, w => BitVec.ofNat 8 w :: bytesOfNat n (w / 256)

/-- The bytes of a 16- or 32-byte array that the table writes as one number, "leftmost hex pair is frame offset 0". -/
def arrayOfNat (n w : Nat) : List Byte := (bytesOfNat n w).reverse

/-- The operation word that a bare word of the table stands for. The table's words do not say their port; of the rows
a word could be read by, this takes the row that fixes most bits of it (log entry 2). -/
def tableWord (nbits w : Nat) : OpWord :=
  if nbits = 0 then ⟨.joinTrigger, []⟩
  else if nbits ≤ 8 then
    let b : Byte := BitVec.ofNat 8 w
    if b = 0x20 ∨ b = 0x22 ∨ b = 0x23 ∨ b = 0x24 then ⟨.tag, [b]⟩
    else if b.toNat < 16 then ⟨.key, [b]⟩
    else ⟨.decodeNibble, [b]⟩
  else if nbits ≤ 16 then ⟨.decodeByte, bytesOfNat 2 w⟩
  else if nbits ≤ 128 then
    match decode ⟨.frame, arrayOfNat 16 w⟩ with
    | .ok _ => ⟨.frame, arrayOfNat 16 w⟩
    | .error _ => ⟨.encodeFrame, arrayOfNat 16 w⟩
  else ⟨.decodeFrame, arrayOfNat (nbits / 8) w⟩

/-- The operation the decoder reads from a bare word of the table. -/
def decodeTableWord (nbits w : Nat) : Option Instr :=
  match decode (tableWord nbits w) with
  | .ok i => some i
  | .error _ => none

end Sys2Proof
end

