-- ==== Sys2Proof/Machine/State.lean ====
section
/-! DEFINITION. The state of HLC (10_state.md R20 to R32), the lines of its interface that a step reads or drives (R43),
the reasons a step can stop, and the state after reset (R40). -/

namespace Sys2Proof.Machine

open Sys2Proof

/-- A storage array, as the bytes that have been written to it: addresses strictly rising. A byte that is not listed has
no value (R41; log entry 6). -/
abbrev Memory := List Host.Cell

/-- The canonical form of a memory. -/
abbrev Memory.wf (m : Memory) : Prop := m.Pairwise fun c d => c.1 < d.1

/-- The two byte arrays of the Radio Link (R45). -/
inductive Buffer where
  /-- `link.active`, 16 bytes (R26) -/
  | active
  /-- `link.encoded`, 32 bytes (R27) -/
  | encoded
  deriving DecidableEq, Repr

/-- Why a step faults. HLC itself raises nothing (R235): these are faults of the model. -/
inductive Fault where
  /-- Raised by a read of a byte that nothing has written (R41: "reading it first is a fault of the model"). Safe. -/
  | unwritten (buf : Buffer) (index : Nat)
  /-- Raised by an access outside an array (R45: no operation computes such an index). Safe. -/
  | outOfRange (buf : Buffer) (index : Nat)
  deriving DecidableEq, Repr

/-- Why the model gives no meaning to what it is asked to do. -/
inductive Refusal where
  /-- Raised by `exec` for an operation that has no meaning yet. Safe. -/
  | notModelled (mnemonic : String)
  /-- Raised by `step` for an operation word that no row of its port matches (R90, R92, R94). Safe. -/
  | undecodable (e : DecodeError)
  /-- Raised by a Controller or Radio Link row while the state register does not select it: its condition (R166 to
  R169, R211 to R214) does not hold, so HLC cannot take that step there. Safe. -/
  | notSelected (i : Instr)
  deriving DecidableEq, Repr

/-- The outputs of a combinational operation (R43, R44; log entry 1). -/
inductive OpResult where
  /-- nothing has been asked yet -/
  | none
  /-- `enc_cw_out` (R101) -/
  | codeword (cw : Byte)
  /-- `dec_nibble_out` and `syndrome` (R106) -/
  | nibble (n : Nibble) (s : Syndrome)
  /-- `par_match`, `par_mismatch`, `has_parity_fault` (R111, R112) -/
  | parity (parMatch parMismatch hasParityFault : Bool)
  /-- the two codewords of a byte (R114) -/
  | bytePair (e0 e1 : Byte)
  /-- a decoded byte, and for each codeword its `par_match` and its syndrome (R115) -/
  | byte (b : Byte) (pm0 pm1 : Bool) (sy0 sy1 : Syndrome)
  /-- a corrected codeword and its nibble (R108, R109) -/
  | corrected (c : Byte) (n : Nibble)
  /-- three ASCII digits (R130) -/
  | digits3 (h t o : Byte)
  /-- two ASCII digits (R131) -/
  | digits2 (t o : Byte)
  /-- an UnencodedFrame (R133) -/
  | frame (f : Frame)
  /-- an EncodedFrame (R151) -/
  | encFrame (e : EncFrame)
  /-- a decoded frame, the `par_match` of each codeword, the syndrome of each codeword (R153) -/
  | decFrame (u : Frame) (pm : Vector Bool 32) (sy : Vector Syndrome 32)
  /-- a message-type tag (R73) -/
  | tag (t : Byte)
  deriving DecidableEq, Repr

/-- The machine: the nine elements of R20, the lines of the interface (R43), and the model's own fields. -/
structure State where
  /-- `act` (R21) -/
  act : Act
  /-- `ctrl_state` (R22) -/
  ctrl : CtrlState
  /-- `last_key` (R24) -/
  lastKey : Key
  /-- `queue`, head first (R25) -/
  queue : List Frame
  /-- `link_state` (R23) -/
  link : LinkState
  /-- `link.active` (R26) -/
  active : Memory
  /-- `link.encoded` (R27) -/
  encoded : Memory
  /-- `join_pending` (R28) -/
  joinPending : Bool
  /-- `join_in_progress` (R29) -/
  joinInProgress : Bool
  /-- input `SENDER_ADDR`, static (R43; log entry 9) -/
  senderAddr : Address
  /-- input: what the keypad will answer to the next `KeyPoll()` (R43, R250; log entry 8) -/
  keyAnswer : Option Key
  /-- input: the bounded wait on a full queue has run out (R190; log entry 7) -/
  waitExpired : Bool
  /-- how many steps the wait of the key in `last_key` can still last at most (R190; log entry 7) -/
  waitLeft : Nat
  /-- how many keys have been accepted: which bound the next wait takes from `Config.queueWait` (log entry 7) -/
  keysAccepted : Nat
  /-- output record: the `Render` events, oldest first (R43, R252; log entry 13) -/
  rendered : List DisplayCommand
  /-- output record: the `Send` events, oldest first (R43, R253; log entry 13) -/
  sent : List EncFrame
  /-- outputs of the combinational operation used last (R43, R44; log entry 1) -/
  result : OpResult
  /-- the scheduler's and the environment's choices already placed, next one first (R285; log entry 3) -/
  stimulus : List Stimulus
  /-- how many choices have been taken from `Config.environment` (log entry 3) -/
  tick : Nat
  deriving DecidableEq, Repr

/-- The state after reset (R40). `last_key` has no reset value in the specification: K0, log entry 5. -/
def State.reset : State :=
  { act := ⟨0, 0, 0, 0, false⟩
    ctrl := .init
    lastKey := .k0
    queue := []
    link := .init
    active := []
    encoded := []
    joinPending := false
    joinInProgress := false
    senderAddr := Config.senderAddr
    keyAnswer := .none
    waitExpired := false
    waitLeft := 0
    keysAccepted := 0
    rendered := []
    sent := []
    result := .none
    stimulus := []
    tick := 0 }

/-! ### Updates, one field each -/

/-- Writes `act` (R21). -/
def State.setAct (s : State) (v : Act) : State := { s with act := v }

/-- Writes `ctrl_state` (R22). -/
def State.setCtrl (s : State) (v : CtrlState) : State := { s with ctrl := v }

/-- Writes `last_key` (R24). -/
def State.setLastKey (s : State) (v : Key) : State := { s with lastKey := v }

/-- Writes `queue` (R25). -/
def State.setQueue (s : State) (v : List Frame) : State := { s with queue := v }

/-- Writes `link_state` (R23). -/
def State.setLink (s : State) (v : LinkState) : State := { s with link := v }

/-- Writes `link.active` (R26). -/
def State.setActive (s : State) (v : Memory) : State := { s with active := v }

/-- Writes `link.encoded` (R27). -/
def State.setEncoded (s : State) (v : Memory) : State := { s with encoded := v }

/-- Writes `join_pending` (R28). -/
def State.setJoinPending (s : State) (v : Bool) : State := { s with joinPending := v }

/-- Writes `join_in_progress` (R29). -/
def State.setJoinInProgress (s : State) (v : Bool) : State := { s with joinInProgress := v }

/-- Writes the keypad's answer (R250). -/
def State.setKeyAnswer (s : State) (v : Option Key) : State := { s with keyAnswer := v }

/-- Writes the wait's level (R190). -/
def State.setWaitExpired (s : State) (v : Bool) : State := { s with waitExpired := v }

/-- Writes how long the wait can still last (R190). -/
def State.setWaitLeft (s : State) (v : Nat) : State := { s with waitLeft := v }

/-- Writes the count of accepted keys (R190). -/
def State.setKeysAccepted (s : State) (v : Nat) : State := { s with keysAccepted := v }

/-- Writes the record of `Render` events (R252). -/
def State.setRendered (s : State) (v : List DisplayCommand) : State := { s with rendered := v }

/-- Writes the record of `Send` events (R253). -/
def State.setSent (s : State) (v : List EncFrame) : State := { s with sent := v }

/-- Writes the outputs of the combinational operation used last (R43). -/
def State.setResult (s : State) (v : OpResult) : State := { s with result := v }

/-- Writes the placed choices (R285). -/
def State.setStimulus (s : State) (v : List Stimulus) : State := { s with stimulus := v }

/-- Writes the count of free choices. -/
def State.setTick (s : State) (v : Nat) : State := { s with tick := v }

end Sys2Proof.Machine
end

