-- ==== Sys2Proof/Machine/Operands.lean ====
section
/-! DEFINITION. Operand assembly (30_encoding.md R84 to R86): nibbles of a byte, decimal digits, the common part of a
frame. -/

namespace Sys2Proof.Machine

open Sys2Proof

/-- `lo = b[3:0]` (R84). -/
def lowNibble (b : Byte) : Nibble := b.extractLsb' 0 4

/-- `hi = b[7:4]` (R84). -/
def highNibble (b : Byte) : Nibble := b.extractLsb' 4 4

/-- `b = (hi << 4) | lo` (R85). -/
def joinNibbles (hi lo : Nibble) : Byte := hi ++ lo

/-- `DIG3`: hundreds, tens, ones in ASCII (R130). -/
def threeDigits (v : Nat) : Byte × Byte × Byte := (asciiDigit v 100, asciiDigit v 10, asciiDigit v 1)

/-- `DIG2`: tens, ones in ASCII (R131). -/
def twoDigits (v : Nat) : Byte × Byte := (asciiDigit v 10, asciiDigit v 1)

/-- The common part of every builder (R133): the tag, the address in the order given (R48), and the payload at bytes 5
to 15. -/
def assemble (t : Byte) (a : Address) (p : Vector Byte 11) : Frame :=
  #v[t, a[0], a[1], a[2], a[3], p[0], p[1], p[2], p[3], p[4], p[5], p[6], p[7], p[8], p[9], p[10]]

end Sys2Proof.Machine
end

