-- ==== Sys2Proof/Machine/Ops.lean ====
section
/-! DEFINITION. The named operations over HLC's storage and its environment (00_scope.md R14, R15), and the acceptance
and completion of an event, which HLC has in the place of trap entry and return (60_exceptions.md R244 to R246). -/

namespace Sys2Proof.Machine

open Sys2Proof

/-! ### Bytes of a storage array -/

/-- The byte at an address, if it has been written. -/
def Memory.read : Memory → Nat → Option Byte
  | [], _ => none
  | (b, v) :: m, a => if a = b then some v else Memory.read m a

/-- Writes one byte and keeps the addresses strictly rising. -/
def Memory.write : Memory → Nat → Byte → Memory
  | [], a, v => [(a, v)]
  | (b, u) :: m, a, v =>
    if a < b then (a, v) :: (b, u) :: m
    else if a = b then (a, v) :: m
    else (b, u) :: Memory.write m a v

/-- Writes consecutive bytes from address `a` on. -/
def Memory.writeList : Memory → Nat → List Byte → Memory
  | m, _, [] => m
  | m, a, v :: vs => Memory.writeList (Memory.write m a v) (a + 1) vs

/-- Reads `n` consecutive bytes from address `a` on; a byte that nothing has written is a fault (R41). -/
def Memory.readBlock (buf : Buffer) (m : Memory) (a : Nat) : (n : Nat) → Except Fault (Vector Byte n)
  | 0 => .ok #v[]
  | n + 1 =>
    match Memory.readBlock buf m a n with
    | .error e => .error e
    | .ok v =>
      match Memory.read m (a + n) with
      | some b => .ok (v.push b)
      | none => .error (.unwritten buf (a + n))

/-- The size of an array in bytes (R45). -/
def Buffer.size : Buffer → Nat
  | .active => 16
  | .encoded => 32

/-- The content of an array. -/
def State.buffer (s : State) : Buffer → Memory
  | .active => s.active
  | .encoded => s.encoded

/-- Replaces the content of an array. -/
def State.setBuffer (s : State) (buf : Buffer) (m : Memory) : State :=
  match buf with
  | .active => s.setActive m
  | .encoded => s.setEncoded m

/-- `MemRead(buf, i, n)` (R14). -/
def State.memRead (s : State) (buf : Buffer) (i n : Nat) : Except Fault (Vector Byte n) :=
  if i + n ≤ buf.size then Memory.readBlock buf (s.buffer buf) i n else .error (.outOfRange buf (i + n))

/-- `MemWrite(buf, i, n, v)` (R14). -/
def State.memWrite (s : State) (buf : Buffer) (i : Nat) {n : Nat} (v : Vector Byte n) : Except Fault State :=
  if i + n ≤ buf.size then .ok (s.setBuffer buf (Memory.writeList (s.buffer buf) i v.toList))
  else .error (.outOfRange buf (i + n))

/-- Goes on with the value of an access, or stops with its fault. -/
def orFault {α : Type} (r : Except Fault α) (k : α → Host.Outcome State Fault Refusal) :
    Host.Outcome State Fault Refusal :=
  match r with
  | .ok a => k a
  | .error e => .fault e

/-! ### The queue (R55, R56) -/

/-- The result of a push. -/
inductive PushResult where
  | ok
  | full
  deriving DecidableEq, Repr

/-- `QPush(f)` (R55). -/
def State.qPush (s : State) (f : Frame) : PushResult × State :=
  if s.queue.length < Config.queueDepth then (.ok, s.setQueue (s.queue ++ [f])) else (.full, s)

/-- `QPop()` (R56). -/
def State.qPop (s : State) : Option Frame × State :=
  match s.queue with
  | [] => (none, s)
  | f :: fs => (some f, s.setQueue fs)

/-! ### The environment (R15) -/

/-- `KeyPoll()` (R250): the answer is consumed by the poll that returns it (R60). -/
def State.keyPoll (s : State) : Option Key × State := (s.keyAnswer, s.setKeyAnswer none)

/-- `JoinTake()` (R64): reads and clears. -/
def State.joinTake (s : State) : Bool × State := (s.joinPending, s.setJoinPending false)

/-- `Render(dc)` (R252). -/
def State.render (s : State) (dc : DisplayCommand) : State := s.setRendered (s.rendered ++ [dc])

/-- `Send(ef)` (R253); the bytes go in index order (R53). -/
def State.send (s : State) (ef : EncFrame) : State := s.setSent (s.sent ++ [ef])

/-- A combinational operation gives its outputs (R43). -/
def State.answer (s : State) (r : OpResult) : Host.Outcome State Fault Refusal := .next (s.setResult r)

/-! ### Acceptance and completion of an event -/

/-- Accepting a key event (R244): it is saved in `last_key` and the Controller moves to DISPLAYING. The bound of the wait
its frame may come to is a free value, fresh for each key (R190; log entry 7). -/
def State.acceptKey (s : State) (k : Key) : State :=
  (((s.setLastKey k).setCtrl .displaying).setWaitLeft (Config.queueWait s.keysAccepted)).setKeysAccepted
    (s.keysAccepted + 1)

/-- Completing a key event (R246): the Controller returns to IDLE. -/
def State.completeKey (s : State) : State := s.setCtrl .idle

/-- A push that found the queue full (R190): the Controller waits for room, or, when the wait has expired or has reached
its bound, drops the frame and completes the key event. -/
def State.waitOrDrop (s : State) : State :=
  match s.waitExpired, s.waitLeft with
  | false, n + 1 => s.setWaitLeft n
  | false, 0 | true, _ => s.completeKey

/-- Accepting a join trigger (R245), `join_pending` having been cleared by the `JoinTake()` that read it: the mark is
set, the JOIN frame is written, the Radio Link moves to ENCODE. -/
def State.acceptJoin (s : State) (joinFrame : Frame) : Except Fault State :=
  match s.memWrite .active 0 joinFrame with
  | .ok s' => .ok ((s'.setJoinInProgress true).setLink .encode)
  | .error e => .error e

/-- Accepting a frame from the queue (R212, R68): all 16 bytes are copied, the Radio Link moves to ENCODE. -/
def State.acceptFrame (s : State) (f : Frame) : Except Fault State :=
  match s.memWrite .active 0 f with
  | .ok s' => .ok (s'.setLink .encode)
  | .error e => .error e

/-- Completing a frame (R246, R214): the mark is cleared and the Radio Link returns to IDLE. -/
def State.completeFrame (s : State) : State := (s.setJoinInProgress false).setLink .idle

end Sys2Proof.Machine
end

