-- ==== Sys2Proof/Machine/Builder.lean ====
section
/-! DEFINITION. The frame builder (41_frame_builder.md R130 to R144) and the message-type tags (30_encoding.md R73). -/

namespace Sys2Proof.Machine

open Sys2Proof

/-- `TAG_JOIN` (R73). -/
def tagJoin : Byte := 0x20

/-- `TAG_XYZ` (R73). -/
def tagXyz : Byte := 0x22

/-- `TAG_ROT` (R73). -/
def tagRot : Byte := 0x23

/-- `TAG_VAC` (R73). -/
def tagVac : Byte := 0x24

/-- `BUILD_XYZ` (R134): "XYZ", then x, y and z in digits. -/
def buildXyz (a : Address) (x y : U16) (z : Byte) : Frame :=
  let dx := threeDigits x.toNat
  let dy := threeDigits y.toNat
  let dz := twoDigits z.toNat
  assemble tagXyz a #v[0x58, 0x59, 0x5A, dx.1, dx.2.1, dx.2.2, dy.1, dy.2.1, dy.2.2, dz.1, dz.2]

/-- `BUILD_ROT` (R135): "ROT", then the angle in digits, zero-padded (R140). -/
def buildRot (a : Address) (angle : Byte) : Frame :=
  let d := threeDigits angle.toNat
  assemble tagRot a #v[0x52, 0x4F, 0x54, d.1, d.2.1, d.2.2, 0, 0, 0, 0, 0]

/-- `BUILD_VON` (R136): "VON". -/
def buildVon (a : Address) : Frame := assemble tagVac a #v[0x56, 0x4F, 0x4E, 0, 0, 0, 0, 0, 0, 0, 0]

/-- `BUILD_VOFF` (R137): "VOFF". -/
def buildVoff (a : Address) : Frame := assemble tagVac a #v[0x56, 0x4F, 0x46, 0x46, 0, 0, 0, 0, 0, 0, 0]

/-- `BUILD_VAC` (R138): by the new value of `act.on`. -/
def buildVac (a : Address) (on : Bool) : Frame := if on then buildVon a else buildVoff a

/-- `BUILD_JOIN` (R139): "JOIN". -/
def buildJoin (a : Address) : Frame := assemble tagJoin a #v[0x4A, 0x4F, 0x49, 0x4E, 0, 0, 0, 0, 0, 0, 0]

/-- The meaning of `DIG3` (R130). -/
def execDig3 (v : U16) (s : State) : Host.Outcome State Fault Refusal :=
  let d := threeDigits v.toNat
  s.answer (.digits3 d.1 d.2.1 d.2.2)

/-- The meaning of `DIG2` (R131). -/
def execDig2 (v : Byte) (s : State) : Host.Outcome State Fault Refusal :=
  let d := twoDigits v.toNat
  s.answer (.digits2 d.1 d.2)

/-- The meaning of `BUILD_XYZ` (R134). -/
def execBuildXyz (a : Address) (x y : U16) (z : Byte) (s : State) : Host.Outcome State Fault Refusal :=
  s.answer (.frame (buildXyz a x y z))

/-- The meaning of `BUILD_ROT` (R135). -/
def execBuildRot (a : Address) (angle : Byte) (s : State) : Host.Outcome State Fault Refusal :=
  s.answer (.frame (buildRot a angle))

/-- The meaning of `BUILD_VON` (R136). -/
def execBuildVon (a : Address) (s : State) : Host.Outcome State Fault Refusal := s.answer (.frame (buildVon a))

/-- The meaning of `BUILD_VOFF` (R137). -/
def execBuildVoff (a : Address) (s : State) : Host.Outcome State Fault Refusal := s.answer (.frame (buildVoff a))

/-- The meaning of `BUILD_VAC` (R138). -/
def execBuildVac (a : Address) (on : Bool) (s : State) : Host.Outcome State Fault Refusal :=
  s.answer (.frame (buildVac a on))

/-- The meaning of `BUILD_JOIN` (R139). -/
def execBuildJoin (a : Address) (s : State) : Host.Outcome State Fault Refusal := s.answer (.frame (buildJoin a))

/-- The meaning of `TAG_JOIN` (R73; log entry 17): the constant. -/
def execTagJoin (s : State) : Host.Outcome State Fault Refusal := s.answer (.tag tagJoin)

/-- The meaning of `TAG_XYZ` (R73; log entry 17): the constant. -/
def execTagXyz (s : State) : Host.Outcome State Fault Refusal := s.answer (.tag tagXyz)

/-- The meaning of `TAG_ROT` (R73; log entry 17): the constant. -/
def execTagRot (s : State) : Host.Outcome State Fault Refusal := s.answer (.tag tagRot)

/-- The meaning of `TAG_VAC` (R73; log entry 17): the constant. -/
def execTagVac (s : State) : Host.Outcome State Fault Refusal := s.answer (.tag tagVac)

end Sys2Proof.Machine
end

