-- ==== Sys2Proof/Machine/Flags.lean ====
section
/-! DEFINITION. The parity outcomes of a received codeword (40_hamming_codec.md R102, R111, R112). HLC stores no flag
of them (R34). -/

namespace Sys2Proof.Machine

open Sys2Proof

/-- The exclusive-or of bits 1 to 7 of a codeword: the even parity bit over them (R102, R111). -/
def computedParity (r : Byte) : Bool :=
  r.getLsbD 1 ^^ r.getLsbD 2 ^^ r.getLsbD 3 ^^ r.getLsbD 4 ^^ r.getLsbD 5 ^^ r.getLsbD 6 ^^ r.getLsbD 7

/-- `par_match` (R111). -/
def parMatch (r : Byte) : Bool := computedParity r == r.getLsbD 0

/-- `par_mismatch` (R111). -/
def parMismatch (r : Byte) : Bool := computedParity r != r.getLsbD 0

/-- `has_parity_fault` in a given sense (R112). -/
def hasParityFault (sense : ParityFaultSense) (r : Byte) : Bool :=
  match sense with
  | .trueOnMatch => parMatch r
  | .trueOnMismatch => parMismatch r

end Sys2Proof.Machine
end

