-- ==== Sys2Proof/Machine/Codec.lean ====
section
/-! DEFINITION. The Hamming(7,4)-with-parity codec (40_hamming_codec.md R100 to R115), for both variants of conflict C1;
the operations use the one in force. -/

namespace Sys2Proof.Machine

open Sys2Proof

/-- The check bits H2 H1 H0 of a nibble: R101 for variant A, conflict C1 for variant B. -/
def checkBits (v : Variant) (n : Nibble) : BitVec 3 :=
  let d0 := n.getLsbD 0
  let d1 := n.getLsbD 1
  let d2 := n.getLsbD 2
  let d3 := n.getLsbD 3
  match v with
  | .a => BitVec.ofBool (d0 ^^ d1 ^^ d3) ++ BitVec.ofBool (d0 ^^ d2 ^^ d3) ++ BitVec.ofBool (d1 ^^ d2 ^^ d3)
  | .b => BitVec.ofBool (d0 ^^ d2 ^^ d3) ++ BitVec.ofBool (d0 ^^ d1 ^^ d3) ++ BitVec.ofBool (d0 ^^ d1 ^^ d2)

/-- `ENCN` (R101, R102): D3 to D0, H2 to H0, and P0, the parity over the seven others. -/
def encn (v : Variant) (n : Nibble) : Byte :=
  let seven : BitVec 7 := n ++ checkBits v n
  seven ++ BitVec.ofBool (computedParity (seven ++ 0#1))

/-- The syndrome (R107): each received check bit against the one computed from the received data bits. -/
def syndrome (v : Variant) (r : Byte) : Syndrome := r.extractLsb' 1 3 ^^^ checkBits v (r.extractLsb' 4 4)

/-- The constant table `FLIP`, indexed by syndrome (R108 for variant A, conflict C1 for variant B). -/
def flipTable : Variant → Vector Byte 8
  | .a => #v[0x00, 0x02, 0x04, 0x40, 0x08, 0x20, 0x10, 0x80]
  | .b => #v[0x00, 0x02, 0x04, 0x20, 0x08, 0x40, 0x80, 0x10]

/-- `FLIP[s]` (R108). -/
def flipMask (v : Variant) (s : Syndrome) : Byte := (flipTable v)[s.toNat]

/-- `c = r ⊕ FLIP[s]` (R106). -/
def correct (v : Variant) (s : Syndrome) (r : Byte) : Byte := r ^^^ flipMask v s

/-- `DECN` (R106, R109): the data bits of the corrected word. -/
def decn (v : Variant) (r : Byte) : Nibble := (correct v (syndrome v r) r).extractLsb' 4 4

/-- `ENCB` (R114): low nibble first. -/
def encb (v : Variant) (b : Byte) : Byte × Byte := (encn v (lowNibble b), encn v (highNibble b))

/-- `DECB` (R115). -/
def decb (v : Variant) (r0 r1 : Byte) : Byte := joinNibbles (decn v r1) (decn v r0)

/-- The meaning of `ENCN` (R101). -/
def execEncn (n : Nibble) (s : State) : Host.Outcome State Fault Refusal :=
  s.answer (.codeword (encn Config.hammingVariant n))

/-- The meaning of `DECN` (R106). -/
def execDecn (r : Byte) (s : State) : Host.Outcome State Fault Refusal :=
  s.answer (.nibble (decn Config.hammingVariant r) (syndrome Config.hammingVariant r))

/-- The meaning of `PARCHK` (R111, R112). -/
def execParchk (r : Byte) (s : State) : Host.Outcome State Fault Refusal :=
  s.answer (.parity (parMatch r) (parMismatch r) (hasParityFault Config.parityFaultSense r))

/-- The meaning of `ENCB` (R114). -/
def execEncb (b : Byte) (s : State) : Host.Outcome State Fault Refusal :=
  s.answer (.bytePair (encb Config.hammingVariant b).1 (encb Config.hammingVariant b).2)

/-- The meaning of `DECB` (R115); its outputs b, pm and sy are those of its row in spec/opcode_table.json. -/
def execDecb (r0 r1 : Byte) (s : State) : Host.Outcome State Fault Refusal :=
  s.answer (.byte (decb Config.hammingVariant r0 r1) (parMatch r0) (parMatch r1)
    (syndrome Config.hammingVariant r0) (syndrome Config.hammingVariant r1))

/-- One row of the correction table on a received codeword (R108, R109; log entry 16). -/
def correctionRow (k : Syndrome) (r : Byte) : OpResult :=
  .corrected (correct Config.hammingVariant k r) ((correct Config.hammingVariant k r).extractLsb' 4 4)

/-- The meaning of `SYN0` (R108): no correction. -/
def execSyn0 (r : Byte) (s : State) : Host.Outcome State Fault Refusal := s.answer (correctionRow 0 r)

/-- The meaning of `SYN1` (R108): flips H0. -/
def execSyn1 (r : Byte) (s : State) : Host.Outcome State Fault Refusal := s.answer (correctionRow 1 r)

/-- The meaning of `SYN2` (R108): flips H1. -/
def execSyn2 (r : Byte) (s : State) : Host.Outcome State Fault Refusal := s.answer (correctionRow 2 r)

/-- The meaning of `SYN3` (R108): flips D2. -/
def execSyn3 (r : Byte) (s : State) : Host.Outcome State Fault Refusal := s.answer (correctionRow 3 r)

/-- The meaning of `SYN4` (R108): flips H2. -/
def execSyn4 (r : Byte) (s : State) : Host.Outcome State Fault Refusal := s.answer (correctionRow 4 r)

/-- The meaning of `SYN5` (R108): flips D1. -/
def execSyn5 (r : Byte) (s : State) : Host.Outcome State Fault Refusal := s.answer (correctionRow 5 r)

/-- The meaning of `SYN6` (R108): flips D0. -/
def execSyn6 (r : Byte) (s : State) : Host.Outcome State Fault Refusal := s.answer (correctionRow 6 r)

/-- The meaning of `SYN7` (R108): flips D3. -/
def execSyn7 (r : Byte) (s : State) : Host.Outcome State Fault Refusal := s.answer (correctionRow 7 r)

end Sys2Proof.Machine
end

