-- ==== Sys2Proof/Machine/KeyEffect.lean ====
section
/-! DEFINITION. What each key does to the actuation state, what it shows and what it sends (43_controller_fsm.md R170 to
R189). -/

namespace Sys2Proof.Machine

open Sys2Proof

/-- One of the 13 key events (R19, R92). -/
def Key.recognised : Key → Bool
  | .unrecD | .unrecE | .unrecF => false
  | .k0 | .k1 | .k2 | .k3 | .k4 | .k5 | .k6 | .k7 | .k8 | .k9 | .ka | .kb | .kc => true

/-- A grid key writes its grid point to x and y (the template before R174). -/
def effectGrid (k : Key) (act : Act) : Act :=
  match Config.gridPoint k with
  | some p => { act with x := p.1, y := p.2 }
  | none => act

/-- `K1` (R174). -/
def effectK1 (act : Act) : Act := effectGrid .k1 act

/-- `K2` (R175). -/
def effectK2 (act : Act) : Act := effectGrid .k2 act

/-- `K3` (R176). -/
def effectK3 (act : Act) : Act := effectGrid .k3 act

/-- `K4` (R177). -/
def effectK4 (act : Act) : Act := effectGrid .k4 act

/-- `K5` (R178). -/
def effectK5 (act : Act) : Act := effectGrid .k5 act

/-- `K6` (R179). -/
def effectK6 (act : Act) : Act := effectGrid .k6 act

/-- `K7` (R180). -/
def effectK7 (act : Act) : Act := effectGrid .k7 act

/-- `K8` (R181). -/
def effectK8 (act : Act) : Act := effectGrid .k8 act

/-- `K9` (R182). -/
def effectK9 (act : Act) : Act := effectGrid .k9 act

/-- `KA`, z down (R183, conflict C5): the guard decides. -/
def effectKA (act : Act) : Act :=
  if act.z.toNat < 10 then act else { act with z := BitVec.ofNat 8 (max (act.z.toNat - 10) 0) }

/-- `KB`, z up (R184, conflict C2). -/
def effectKB (act : Act) : Act :=
  if act.z.toNat > 80 then act else { act with z := BitVec.ofNat 8 (min (act.z.toNat + 10) 90) }

/-- `KC`, angle up (R185, conflict C3). -/
def effectKC (act : Act) : Act :=
  if act.angle.toNat > 170 then act else { act with angle := BitVec.ofNat 8 (min (act.angle.toNat + 10) 170) }

/-- `K0`, actuator toggle (R186). -/
def effectK0 (act : Act) : Act := { act with on := !act.on }

/-- `KUNREC` (R187): no effect. -/
def effectUnrec (act : Act) : Act := act

/-- The effect of DISPLAYING, chosen by the key alone (R170, R172). -/
def keyEffect (k : Key) (act : Act) : Act :=
  match k with
  | .k1 => effectK1 act
  | .k2 => effectK2 act
  | .k3 => effectK3 act
  | .k4 => effectK4 act
  | .k5 => effectK5 act
  | .k6 => effectK6 act
  | .k7 => effectK7 act
  | .k8 => effectK8 act
  | .k9 => effectK9 act
  | .ka => effectKA act
  | .kb => effectKB act
  | .kc => effectKC act
  | .k0 => effectK0 act
  | .unrecD | .unrecE | .unrecF => effectUnrec act

/-- The DisplayCommand for a key and the new actuation state (R188, D8); cursor and label are open (D6, D7). -/
def displayCommand (k : Key) (act : Act) : DisplayCommand :=
  let c := if (Config.gridPoint k).isSome then Config.cursorGrid k else Config.cursorOther k act
  { cursorCol := c.1, cursorRow := c.2, label := Config.label k act, z := act.z, angle := act.angle }

/-- The frame that TRANSMITTING builds, chosen by the key alone (R171, R189); none for an unrecognised key (R187). -/
def messageFor (a : Address) (act : Act) (k : Key) : Option Frame :=
  match k with
  | .k1 | .k2 | .k3 | .k4 | .k5 | .k6 | .k7 | .k8 | .k9 | .ka | .kb => some (buildXyz a act.x act.y act.z)
  | .kc => some (buildRot a act.angle)
  | .k0 => some (buildVac a act.on)
  | .unrecD | .unrecE | .unrecF => none

end Sys2Proof.Machine
end

