-- ==== Sys2Proof/Machine/Controller.lean ====
section
/-! DEFINITION. The four steps of the Controller (43_controller_fsm.md R165 to R169, R190). A row's condition is its
selector: presented while `ctrl_state` does not select it, the row is refused (log entry 20). -/

namespace Sys2Proof.Machine

open Sys2Proof

/-- The meaning of `C_INIT` (R166). -/
def execCInit (s : State) : Host.Outcome State Fault Refusal :=
  if s.ctrl = .init then .next (s.setCtrl .idle) else .refused (.notSelected .cInit)

/-- The meaning of `C_IDLE` (R167): polls; no event, stay; an event, record it and go to DISPLAYING. -/
def execCIdle (s : State) : Host.Outcome State Fault Refusal :=
  if s.ctrl = .idle then
    match s.keyPoll with
    | (none, s') => .next s'
    | (some k, s') => .next (s'.acceptKey k)
  else .refused (.notSelected .cIdle)

/-- The meaning of `C_DISPLAYING` (R168): the key's effect, one `Render` if the key is recognised, then always
TRANSMITTING. -/
def execCDisplaying (s : State) : Host.Outcome State Fault Refusal :=
  if s.ctrl = .displaying then
    let act' := keyEffect s.lastKey s.act
    let s' := s.setAct act'
    let s'' := if Key.recognised s.lastKey then s'.render (displayCommand s.lastKey act') else s'
    .next (s''.setCtrl .transmitting)
  else .refused (.notSelected .cDisplaying)

/-- The push of the TRANSMITTING step (R190): the frame goes in, or the Controller waits for room, not for ever, or drops
the frame. -/
def pushOrWait (s : State) (f : Frame) : State :=
  match s.qPush f with
  | (.ok, s') => s'.completeKey
  | (.full, s') => s'.waitOrDrop

/-- The meaning of `C_TRANSMITTING` (R169, R187, R190). -/
def execCTransmitting (s : State) : Host.Outcome State Fault Refusal :=
  if s.ctrl = .transmitting then
    match messageFor s.senderAddr s.act s.lastKey with
    | some f => .next (pushOrWait s f)
    | none => .next s.completeKey
  else .refused (.notSelected .cTransmitting)

/-- The Controller takes one step: the row its state register selects (R165). -/
def controllerStep (s : State) : Host.Outcome State Fault Refusal :=
  match s.ctrl with
  | .init => execCInit s
  | .idle => execCIdle s
  | .displaying => execCDisplaying s
  | .transmitting => execCTransmitting s

end Sys2Proof.Machine
end

