-- ==== Sys2Proof/Machine/Environment.lean ====
section
/-! DEFINITION. The events of the environment (60_exceptions.md R251; 70_reset_and_hazards.md R270). -/

namespace Sys2Proof.Machine

open Sys2Proof

/-- The meaning of `JOIN_TRIGGER` (R251, R65): `join_pending <- true`; a trigger already pending absorbs it. -/
def execJoinTrigger (s : State) : Host.Outcome State Fault Refusal := .next (s.setJoinPending true)

/-- Every element of R20 at its reset value (R270); the lines of the interface and the environment's record are not
HLC's to reset (log entry 13). -/
def resetElements (s : State) : State :=
  { s with
    act := State.reset.act
    ctrl := State.reset.ctrl
    lastKey := State.reset.lastKey
    queue := State.reset.queue
    link := State.reset.link
    active := State.reset.active
    encoded := State.reset.encoded
    joinPending := State.reset.joinPending
    joinInProgress := State.reset.joinInProgress }

/-- The meaning of `RESET` (R270). -/
def execReset (s : State) : Host.Outcome State Fault Refusal := .next (resetElements s)

end Sys2Proof.Machine
end

