-- ==== Sys2Proof/Machine/FrameCodec.lean ====
section
/-! DEFINITION. The frame encoder and the frame decoder (42_frame_encoder.md R150 to R158). -/

namespace Sys2Proof.Machine

open Sys2Proof

/-- `ENCF` (R151): byte 2i is the codeword of the low nibble of byte i, byte 2i+1 that of its high nibble. -/
def encf (v : Variant) (u : Frame) : EncFrame :=
  Vector.ofFn fun j : Fin 32 =>
    let b := u[j.val / 2]
    encn v (if j.val % 2 = 0 then lowNibble b else highNibble b)

/-- The bytes of `DECF` (R153). -/
def decf (v : Variant) (r : EncFrame) : Frame :=
  Vector.ofFn fun i : Fin 16 => decb v r[2 * i.val] r[2 * i.val + 1]

/-- `PM` of `DECF` (R153): the `par_match` of each codeword. -/
def decfParity (r : EncFrame) : Vector Bool 32 := Vector.ofFn fun j : Fin 32 => parMatch r[j]

/-- `SY` of `DECF` (R153): the syndrome of each codeword. -/
def decfSyndromes (v : Variant) (r : EncFrame) : Vector Syndrome 32 := Vector.ofFn fun j : Fin 32 => syndrome v r[j]

/-- The meaning of `ENCF` (R151). -/
def execEncf (u : Frame) (s : State) : Host.Outcome State Fault Refusal :=
  s.answer (.encFrame (encf Config.hammingVariant u))

/-- The meaning of `DECF` (R153). -/
def execDecf (r : EncFrame) (s : State) : Host.Outcome State Fault Refusal :=
  s.answer (.decFrame (decf Config.hammingVariant r) (decfParity r) (decfSyndromes Config.hammingVariant r))

end Sys2Proof.Machine
end

