-- ==== Sys2Proof/Machine/Keys.lean ====
section
/-! DEFINITION. The key events as input words (30_encoding.md R74, R97; log entry 4): the line `ctrl Kx` is one Controller
step with `KeyPoll()` answering Kx. In IDLE the key is accepted; in any other state the Controller does not poll, the
line is read as `ctrl`, and the step is governed by `last_key`: the key's effect and its frame when `last_key` is the
key (R174 to R187). -/

namespace Sys2Proof.Machine

open Sys2Proof

/-- The line `ctrl Kx` (R97). -/
def keyLine (k : Key) (s : State) : Host.Outcome State Fault Refusal :=
  match s.ctrl with
  | .idle => execCIdle (s.setKeyAnswer (some k))
  | .init | .displaying | .transmitting => controllerStep s

/-- The meaning of `K1` (R174). -/
def execK1 (s : State) : Host.Outcome State Fault Refusal := keyLine .k1 s

/-- The meaning of `K2` (R175). -/
def execK2 (s : State) : Host.Outcome State Fault Refusal := keyLine .k2 s

/-- The meaning of `K3` (R176). -/
def execK3 (s : State) : Host.Outcome State Fault Refusal := keyLine .k3 s

/-- The meaning of `K4` (R177). -/
def execK4 (s : State) : Host.Outcome State Fault Refusal := keyLine .k4 s

/-- The meaning of `K5` (R178). -/
def execK5 (s : State) : Host.Outcome State Fault Refusal := keyLine .k5 s

/-- The meaning of `K6` (R179). -/
def execK6 (s : State) : Host.Outcome State Fault Refusal := keyLine .k6 s

/-- The meaning of `K7` (R180). -/
def execK7 (s : State) : Host.Outcome State Fault Refusal := keyLine .k7 s

/-- The meaning of `K8` (R181). -/
def execK8 (s : State) : Host.Outcome State Fault Refusal := keyLine .k8 s

/-- The meaning of `K9` (R182). -/
def execK9 (s : State) : Host.Outcome State Fault Refusal := keyLine .k9 s

/-- The meaning of `KA` (R183). -/
def execKA (s : State) : Host.Outcome State Fault Refusal := keyLine .ka s

/-- The meaning of `KB` (R184). -/
def execKB (s : State) : Host.Outcome State Fault Refusal := keyLine .kb s

/-- The meaning of `KC` (R185). -/
def execKC (s : State) : Host.Outcome State Fault Refusal := keyLine .kc s

/-- The meaning of `K0` (R186). -/
def execK0 (s : State) : Host.Outcome State Fault Refusal := keyLine .k0 s

/-- The meaning of `KUNREC`, code 0xD (R187). -/
def execKunrecD (s : State) : Host.Outcome State Fault Refusal := keyLine .unrecD s

/-- The meaning of `KUNREC`, code 0xE (R187). -/
def execKunrecE (s : State) : Host.Outcome State Fault Refusal := keyLine .unrecE s

/-- The meaning of `KUNREC`, code 0xF (R187). -/
def execKunrecF (s : State) : Host.Outcome State Fault Refusal := keyLine .unrecF s

end Sys2Proof.Machine
end

