-- ==== Sys2Proof/Machine/RadioLink.lean ====
section
/-! DEFINITION. The four steps of the Radio Link (44_radio_link_fsm.md R210 to R218). A row's condition is its selector:
presented while `link_state` does not select it, the row is refused (log entry 20). -/

namespace Sys2Proof.Machine

open Sys2Proof

/-- The meaning of `L_INIT` (R211). -/
def execLInit (s : State) : Host.Outcome State Fault Refusal :=
  if s.link = .init then .next (s.setLink .idle) else .refused (.notSelected .lInit)

/-- The meaning of `L_IDLE` (R212): the join trigger first, then the queue, else nothing. -/
def execLIdle (s : State) : Host.Outcome State Fault Refusal :=
  if s.link = .idle then
    match s.joinTake with
    | (true, s') => orFault (s'.acceptJoin (buildJoin s'.senderAddr)) .next
    | (false, s') =>
      match s'.qPop with
      | (some f, s'') => orFault (s''.acceptFrame f) .next
      | (none, s'') => .next s''
  else .refused (.notSelected .lIdle)

/-- The meaning of `L_ENCODE` (R213). -/
def execLEncode (s : State) : Host.Outcome State Fault Refusal :=
  if s.link = .encode then
    orFault (s.memRead .active 0 16) fun u =>
      orFault (s.memWrite .encoded 0 (encf Config.hammingVariant u)) fun s' => .next (s'.setLink .transmit)
  else .refused (.notSelected .lEncode)

/-- The meaning of `L_TRANSMIT` (R214). -/
def execLTransmit (s : State) : Host.Outcome State Fault Refusal :=
  if s.link = .transmit then
    orFault (s.memRead .encoded 0 32) fun e => .next (s.send e).completeFrame
  else .refused (.notSelected .lTransmit)

end Sys2Proof.Machine
end

