-- ==== Sys2Proof/Machine/Dispatch.lean ====
section
/-! DEFINITION. One arm for each row of spec/opcode_table.json. -/

namespace Sys2Proof.Machine

open Sys2Proof

/-- The meaning of each operation. -/
def exec (i : Instr) (s : State) : Host.Outcome State Fault Refusal :=
  match i with
  | .encn n => Sys2Proof.Machine.execEncn n s
  | .decn r => Sys2Proof.Machine.execDecn r s
  | .parchk r => Sys2Proof.Machine.execParchk r s
  | .encb b => Sys2Proof.Machine.execEncb b s
  | .decb r0 r1 => Sys2Proof.Machine.execDecb r0 r1 s
  | .syn0 r => Sys2Proof.Machine.execSyn0 r s
  | .syn1 r => Sys2Proof.Machine.execSyn1 r s
  | .syn2 r => Sys2Proof.Machine.execSyn2 r s
  | .syn3 r => Sys2Proof.Machine.execSyn3 r s
  | .syn4 r => Sys2Proof.Machine.execSyn4 r s
  | .syn5 r => Sys2Proof.Machine.execSyn5 r s
  | .syn6 r => Sys2Proof.Machine.execSyn6 r s
  | .syn7 r => Sys2Proof.Machine.execSyn7 r s
  | .dig3 v => Sys2Proof.Machine.execDig3 v s
  | .dig2 v => Sys2Proof.Machine.execDig2 v s
  | .buildXyz addr x y z => Sys2Proof.Machine.execBuildXyz addr x y z s
  | .buildRot addr angle => Sys2Proof.Machine.execBuildRot addr angle s
  | .buildVon addr => Sys2Proof.Machine.execBuildVon addr s
  | .buildVoff addr => Sys2Proof.Machine.execBuildVoff addr s
  | .buildVac addr on => Sys2Proof.Machine.execBuildVac addr on s
  | .buildJoin addr => Sys2Proof.Machine.execBuildJoin addr s
  | .encf u => Sys2Proof.Machine.execEncf u s
  | .decf r => Sys2Proof.Machine.execDecf r s
  | .tagJoin => Sys2Proof.Machine.execTagJoin s
  | .tagXyz => Sys2Proof.Machine.execTagXyz s
  | .tagRot => Sys2Proof.Machine.execTagRot s
  | .tagVac => Sys2Proof.Machine.execTagVac s
  | .k1 => Sys2Proof.Machine.execK1 s
  | .k2 => Sys2Proof.Machine.execK2 s
  | .k3 => Sys2Proof.Machine.execK3 s
  | .k4 => Sys2Proof.Machine.execK4 s
  | .k5 => Sys2Proof.Machine.execK5 s
  | .k6 => Sys2Proof.Machine.execK6 s
  | .k7 => Sys2Proof.Machine.execK7 s
  | .k8 => Sys2Proof.Machine.execK8 s
  | .k9 => Sys2Proof.Machine.execK9 s
  | .ka => Sys2Proof.Machine.execKA s
  | .kb => Sys2Proof.Machine.execKB s
  | .kc => Sys2Proof.Machine.execKC s
  | .k0 => Sys2Proof.Machine.execK0 s
  | .kunrecD => Sys2Proof.Machine.execKunrecD s
  | .kunrecE => Sys2Proof.Machine.execKunrecE s
  | .kunrecF => Sys2Proof.Machine.execKunrecF s
  | .cInit => Sys2Proof.Machine.execCInit s
  | .cIdle => Sys2Proof.Machine.execCIdle s
  | .cDisplaying => Sys2Proof.Machine.execCDisplaying s
  | .cTransmitting => Sys2Proof.Machine.execCTransmitting s
  | .lInit => Sys2Proof.Machine.execLInit s
  | .lIdle => Sys2Proof.Machine.execLIdle s
  | .lEncode => Sys2Proof.Machine.execLEncode s
  | .lTransmit => Sys2Proof.Machine.execLTransmit s
  | .joinTrigger => Sys2Proof.Machine.execJoinTrigger s
  | .reset => Sys2Proof.Machine.execReset s

end Sys2Proof.Machine
end

