-- ==== Sys2Proof/Machine/Fetch.lean ====
section
/-! DEFINITION. Which agent moves next, and the operation word it presents (60_exceptions.md R258; 70_reset_and_hazards.md
R285; log entry 3). A state machine's word is the code of its own state register (R4, R75, R87). -/

namespace Sys2Proof.Machine

open Sys2Proof

/-- The next choice: the first one placed, or, where none is, the free one for this tick (R258, R285). -/
def takeStimulus (s : State) : Stimulus × State :=
  match s.stimulus with
  | st :: rest => (st, s.setStimulus rest)
  | [] => (Config.environment s.tick, s.setTick (s.tick + 1))

/-- What the environment supplies with the choice: with a Controller turn, no key answer left over from before, and
whether the wait has run out (R167, R190); with any other choice, nothing. -/
def presentInputs (st : Stimulus) (s : State) : State :=
  match st with
  | .ctrl _ expired => (s.setKeyAnswer none).setWaitExpired expired
  | .link | .join | .rst | .use _ => s

/-- The operation word of a choice: `ctrl Kx` carries the key code; `ctrl` and `link` run the step that the state
register selects; `join` and `rst` are events (R97). -/
def fetchWord (st : Stimulus) (s : State) : OpWord :=
  match st with
  | .ctrl (some k) _ => ⟨.key, [k.code.setWidth 8]⟩
  | .ctrl none _ => ⟨.ctrlState, [s.ctrl.code.setWidth 8]⟩
  | .link => ⟨.linkState, [s.link.code.setWidth 8]⟩
  | .join => ⟨.joinTrigger, []⟩
  | .rst => ⟨.rst, []⟩
  | .use w => w

/-- The word the next step runs, and the state it runs it in. -/
def fetch (s : State) : OpWord × State :=
  let t := takeStimulus s
  let s' := presentInputs t.1 t.2
  (fetchWord t.1 s', s')

end Sys2Proof.Machine
end

