-- ==== Sys2Proof/Machine/Step.lean ====
section
/-! DEFINITION. One atomic step of one agent (00_scope.md R16; 70_reset_and_hazards.md R285). -/

namespace Sys2Proof.Machine

open Sys2Proof

/-- Fetches the next operation word, decodes it and runs it. -/
def step (s : State) : Host.Outcome State Fault Refusal :=
  let f := fetch s
  match decode f.1 with
  | .ok i => exec i f.2
  | .error e => .refused (.undecodable e)

/-- The state with a word of the table placed as the next choice (log entries 2 and 3). -/
def State.withFetchWord (s : State) (nbits w : Nat) : State :=
  s.setStimulus (.use (tableWord nbits w) :: s.stimulus)

end Sys2Proof.Machine
end

