-- ==== Sys2Proof/Safety.lean ====
section
/-! DEFINITION. The vocabulary of the claims: what holds of every reachable state (10_state.md R38, R39, R41;
44_radio_link_fsm.md R218, R219, R221), when nothing is left to do (70_reset_and_hazards.md R289), which operations are a
Controller turn or a Radio Link turn (60_exceptions.md R249), and the history of the frames the Controller pushed
(20_memory.md R57, R61). -/

namespace Sys2Proof.Machine

open Sys2Proof

/-- The outcome is a next state: no fault and no refusal (R235). -/
def Completes (o : Host.Outcome State Fault Refusal) : Prop := ∃ t, o = .next t

/-- The invariants of `act` on reachable states (R38). -/
abbrev actInRange (a : Act) : Prop :=
  (a.x = 0 ∨ a.x = 75 ∨ a.x = 150) ∧ (a.y = 0 ∨ a.y = 75 ∨ a.y = 150) ∧
    (a.z.toNat % 10 = 0 ∧ a.z.toNat ≤ 90) ∧ (a.angle.toNat % 10 = 0 ∧ a.angle.toNat ≤ 170)

/-- A frame the Controller can push: one of `BUILD_XYZ`, `BUILD_ROT`, `BUILD_VON`, `BUILD_VOFF`, never `BUILD_JOIN`
(R39). -/
def ControllerFrame (a : Address) (f : Frame) : Prop :=
  (∃ x y z, f = buildXyz a x y z) ∨ (∃ angle, f = buildRot a angle) ∨ f = buildVon a ∨ f = buildVoff a

/-- The bytes written to an array are exactly those of `v`, from index 0 on. -/
def MemHolds (m : Memory) {n : Nat} (v : Vector Byte n) : Prop := ∀ a, Memory.read m a = v[a]?

/-- The frame the Radio Link has accepted and not yet sent is a JOIN frame exactly while the mark is set (R218). -/
def AcceptedFrame (s : State) (f : Frame) : Prop :=
  (s.joinInProgress = true ∧ f = buildJoin s.senderAddr) ∨ (s.joinInProgress = false ∧ ControllerFrame s.senderAddr f)

/-- What holds of every reachable state. -/
structure CoreInv (s : State) : Prop where
  /-- R38 -/
  act : actInRange s.act
  /-- R39, R25 -/
  queueLength : s.queue.length ≤ 10
  /-- R39 -/
  queueFrames : ∀ f ∈ s.queue, ControllerFrame s.senderAddr f
  /-- `link.active` is in canonical form -/
  activeWf : Memory.wf s.active
  /-- `link.encoded` is in canonical form -/
  encodedWf : Memory.wf s.encoded
  /-- `link.active` has 16 bytes (R26) -/
  activeSize : ∀ a, 16 ≤ a → Memory.read s.active a = none
  /-- `link.encoded` has 32 bytes (R27) -/
  encodedSize : ∀ a, 32 ≤ a → Memory.read s.encoded a = none
  /-- ENCODE is reached only with all 16 bytes written (R41, R219) -/
  encode : s.link = .encode → ∃ f, MemHolds s.active f ∧ AcceptedFrame s f
  /-- TRANSMIT is reached only with all 32 bytes written, the encoding of the accepted frame (R41, R213) -/
  transmit : s.link = .transmit → ∃ f, MemHolds s.encoded (encf Config.hammingVariant f) ∧ AcceptedFrame s f
  /-- the mark is false outside the JOIN frame's own cycle (R218) -/
  mark : s.link = .init ∨ s.link = .idle → s.joinInProgress = false
  /-- every `Send` carried the encoding of a Controller frame or of the JOIN frame (R221) -/
  sentFrames : ∀ e ∈ s.sent, ∃ f, (f = buildJoin s.senderAddr ∨ ControllerFrame s.senderAddr f) ∧
    e = encf Config.hammingVariant f

/-- The choice `k` steps from now: one of those placed, or the free one of its tick (R285; log entry 3). -/
def upcomingChoice (s : State) (k : Nat) : Stimulus :=
  match s.stimulus[k]? with
  | some st => st
  | none => Config.environment (s.tick + (k - s.stimulus.length))

/-- A turn of a state machine with which the environment offers nothing: no key, no trigger, no reset, no use of a
function (R289). -/
def offersNothing : Stimulus → Bool
  | .ctrl none _ | .link => true
  | .ctrl (some _) _ | .join | .rst | .use _ => false

/-- Quiescent as far as the next `n` choices go: both state machines in IDLE, nothing queued, pending or answered, and
the environment offering nothing (R289). -/
structure QuiescentFor (n : Nat) (s : State) : Prop where
  ctrl : s.ctrl = .idle
  link : s.link = .idle
  queue : s.queue = []
  joinPending : s.joinPending = false
  keyAnswer : s.keyAnswer = none
  offers : ∀ k < n, offersNothing (upcomingChoice s k) = true

/-- A quiescent state (R289): "the environment offering no further key or trigger", however far one looks. -/
def Quiescent (s : State) : Prop := ∀ n, QuiescentFor n s

/-- The key events with their keys (R74). -/
def keyEvents : List (Key × Instr) :=
  [(.k0, .k0), (.k1, .k1), (.k2, .k2), (.k3, .k3), (.k4, .k4), (.k5, .k5), (.k6, .k6), (.k7, .k7), (.k8, .k8),
   (.k9, .k9), (.ka, .ka), (.kb, .kb), (.kc, .kc), (.unrecD, .kunrecD), (.unrecE, .kunrecE), (.unrecF, .kunrecF)]

/-- The operations that are a turn of the Controller. -/
def controllerTurns : List Instr := [.cInit, .cIdle, .cDisplaying, .cTransmitting] ++ keyEvents.map (·.2)

/-- The operations that are a turn of the Radio Link. -/
def radioLinkTurns : List Instr := [.lInit, .lIdle, .lEncode, .lTransmit]

/-- The operations that are pure functions (R100, R141, R150). -/
def pureFunction : Instr → Bool
  | .encn _ | .decn _ | .parchk _ | .encb _ | .decb _ _ => true
  | .syn0 _ | .syn1 _ | .syn2 _ | .syn3 _ | .syn4 _ | .syn5 _ | .syn6 _ | .syn7 _ => true
  | .dig3 _ | .dig2 _ => true
  | .buildXyz _ _ _ _ | .buildRot _ _ | .buildVon _ | .buildVoff _ | .buildVac _ _ | .buildJoin _ => true
  | .encf _ | .decf _ => true
  | .tagJoin | .tagXyz | .tagRot | .tagVac => true
  | .k1 | .k2 | .k3 | .k4 | .k5 | .k6 | .k7 | .k8 | .k9 | .ka | .kb | .kc | .k0 => false
  | .kunrecD | .kunrecE | .kunrecF => false
  | .cInit | .cIdle | .cDisplaying | .cTransmitting => false
  | .lInit | .lIdle | .lEncode | .lTransmit => false
  | .joinTrigger | .reset => false

/-- The row that `ctrl_state` selects (R87). -/
def selectedCtrlRow (s : State) : Instr :=
  match s.ctrl with
  | .init => .cInit
  | .idle => .cIdle
  | .displaying => .cDisplaying
  | .transmitting => .cTransmitting

/-- The row that `link_state` selects (R87). -/
def selectedLinkRow (s : State) : Instr :=
  match s.link with
  | .init => .lInit
  | .idle => .lIdle
  | .encode => .lEncode
  | .transmit => .lTransmit

/-- The encoding of the frame from the queue that the Radio Link has accepted and not yet sent, if there is one. -/
def inFlight (s : State) : List EncFrame :=
  if s.joinInProgress then []
  else
    match s.link with
    | .init | .idle => []
    | .encode =>
      match s.memRead .active 0 16 with
      | .ok f => [encf Config.hammingVariant f]
      | .error _ => []
    | .transmit =>
      match s.memRead .encoded 0 32 with
      | .ok e => [e]
      | .error _ => []

/-- The encodings of all frames pushed so far, in the order of their pushes: those sent (JOIN frames left out), the one in
flight, those in the queue (R57, R61). -/
def pushedHistory (s : State) : List EncFrame :=
  s.sent.filter (fun e => e != encf Config.hammingVariant (buildJoin s.senderAddr)) ++ inFlight s ++
    s.queue.map (encf Config.hammingVariant)

/-- The frame an operation pushes in this state: a Controller turn in TRANSMITTING with a recognised key and room in the
queue (R189, R190). -/
def framePushed (i : Instr) (s : State) : List EncFrame :=
  if i ∈ controllerTurns ∧ s.ctrl = .transmitting ∧ s.queue.length < 10 then
    ((messageFor s.senderAddr s.act s.lastKey).map (encf Config.hammingVariant)).toList
  else []

/-- The sixteen valid codewords of variant A, indexed by nibble (R103, the lookup table). -/
def sixteenCodewords : Vector Byte 16 :=
  #v[0x00, 0x1D, 0x2B, 0x36, 0x47, 0x5A, 0x6C, 0x71, 0x8E, 0x93, 0xA5, 0xB8, 0xC9, 0xD4, 0xE2, 0xFF]

/-- In how many of their eight bits two bytes differ. -/
def bitDistance (a b : Byte) : Nat := ((List.range 8).filter fun k => (a ^^^ b).getLsbD k).length

/-- Nibble `j` of a frame in the order of encoding: low nibble first (R49, R82). -/
def nibbleAt (u : Frame) (j : Fin 32) : Nibble :=
  if j.val % 2 = 0 then lowNibble u[j.val / 2] else highNibble u[j.val / 2]

/-- Changes the next state of an outcome. -/
def mapNext (g : State → State) (o : Host.Outcome State Fault Refusal) : Host.Outcome State Fault Refusal :=
  match o with
  | .next t => .next (g t)
  | .fault f => .fault f
  | .refused r => .refused r

/-- Goes on from the next state of an outcome. -/
def chain (o : Host.Outcome State Fault Refusal) (k : State → Host.Outcome State Fault Refusal) :
    Host.Outcome State Fault Refusal :=
  match o with
  | .next t => k t
  | .fault f => .fault f
  | .refused r => .refused r

/-- One key event handled completely: accepted, shown, sent (R97 `press`, R196). -/
def pressKey (i : Instr) (s : State) : Host.Outcome State Fault Refusal :=
  chain (chain (exec i s) (exec .cDisplaying)) (exec .cTransmitting)

end Sys2Proof.Machine
end

