-- ==== Sys2Proof/Certificates/Slice0/Obligations.lean ====
section
/-! DEFINITION. The statements about HLC, each citing the rule of spec/ it formalises. -/

open Sys2Proof Sys2Proof.Machine

/-! ### The codec -/

/-- R101, R102: the data bits are the nibble, the check bits and the parity bit follow their equations. -/
def Obligations.EncnFollowsTheCheckEquations : Prop :=
  ∀ (n : Nibble) (s : State), ∃ cw : Byte,
    exec (.encn n) s = .next { s with result := .codeword cw } ∧
    cw.extractLsb' 4 4 = n ∧
    cw.getLsbD 1 = (n.getLsbD 1 ^^ n.getLsbD 2 ^^ n.getLsbD 3) ∧
    cw.getLsbD 2 = (n.getLsbD 0 ^^ n.getLsbD 2 ^^ n.getLsbD 3) ∧
    cw.getLsbD 3 = (n.getLsbD 0 ^^ n.getLsbD 1 ^^ n.getLsbD 3) ∧
    cw.getLsbD 0 = (cw.getLsbD 1 ^^ cw.getLsbD 2 ^^ cw.getLsbD 3 ^^ cw.getLsbD 4 ^^ cw.getLsbD 5 ^^ cw.getLsbD 6 ^^
      cw.getLsbD 7) ∧
    cw.getLsbD 0 = (n.getLsbD 0 ^^ n.getLsbD 1 ^^ n.getLsbD 2)

/-- The lookup table of the sixteen codewords, which the specification derives by enumeration (the table of R103); nothing
else changes. -/
def Obligations.EncnGivesTheSixteenCodewords : Prop :=
  ∀ (n : Nibble) (s : State),
    exec (.encn n) s = .next { s with result := .codeword sixteenCodewords[n.toNat] }

/-- The syndrome of the received bits (the equations of R107, which the specification derives as the parity checks of the
encoder and adopts by decision D1) selects one flip of the table (R108), and the nibble is bits 7 to 4 of the corrected
word (R106, R109). -/
def Obligations.DecnCorrectsBySyndrome : Prop :=
  ∀ (r : Byte) (s : State),
    let s0 := r.getLsbD 1 ^^ r.getLsbD 5 ^^ r.getLsbD 6 ^^ r.getLsbD 7
    let s1 := r.getLsbD 2 ^^ r.getLsbD 4 ^^ r.getLsbD 6 ^^ r.getLsbD 7
    let s2 := r.getLsbD 3 ^^ r.getLsbD 4 ^^ r.getLsbD 5 ^^ r.getLsbD 7
    let syn : Syndrome := BitVec.ofBool s2 ++ BitVec.ofBool s1 ++ BitVec.ofBool s0
    let flips : Vector Byte 8 := #v[0x00, 0x02, 0x04, 0x40, 0x08, 0x20, 0x10, 0x80]
    exec (.decn r) s = .next { s with result := .nibble ((r ^^^ flips[syn.toNat]).extractLsb' 4 4) syn }

/-- R111, R112: both parity outcomes, and the boolean in the sense the open parameter has. -/
def Obligations.ParchkComparesTheParities : Prop :=
  ∀ (r : Byte) (s : State),
    let computed := r.getLsbD 1 ^^ r.getLsbD 2 ^^ r.getLsbD 3 ^^ r.getLsbD 4 ^^ r.getLsbD 5 ^^ r.getLsbD 6 ^^ r.getLsbD 7
    let same := computed == r.getLsbD 0
    let fault := if Config.parityFaultSense = .trueOnMatch then same else !same
    exec (.parchk r) s = .next { s with result := .parity same (!same) fault }

/-- R114: the codeword of the low nibble first, then that of the high nibble. -/
def Obligations.EncbEncodesLowNibbleFirst : Prop :=
  ∀ (b : Byte) (s : State), ∃ e0 e1 : Byte,
    exec (.encn (b.extractLsb' 0 4)) s = .next { s with result := .codeword e0 } ∧
    exec (.encn (b.extractLsb' 4 4)) s = .next { s with result := .codeword e1 } ∧
    exec (.encb b) s = .next { s with result := .bytePair e0 e1 }

/-- The decoded nibbles joined, high nibble from the second codeword, with the parity outcome of each codeword (the
pseudocode of R115, which the specification derives) and its syndrome. -/
def Obligations.DecbJoinsTheNibbles : Prop :=
  ∀ (r0 r1 : Byte) (s : State), ∃ (n0 n1 : Nibble) (y0 y1 : Syndrome) (m0 m1 f0 f1 : Bool),
    exec (.decn r0) s = .next { s with result := .nibble n0 y0 } ∧
    exec (.decn r1) s = .next { s with result := .nibble n1 y1 } ∧
    exec (.parchk r0) s = .next { s with result := .parity m0 (!m0) f0 } ∧
    exec (.parchk r1) s = .next { s with result := .parity m1 (!m1) f1 } ∧
    exec (.decb r0 r1) s = .next { s with result := .byte ((n1.setWidth 8 <<< 4) ||| n0.setWidth 8) m0 m1 y0 y1 }

/-- Each row of the correction table flips its one bit, or none (the table of R108). That a row, presented as an operation,
corrects the codeword it is given is the model's choice (log entry 16). -/
def Obligations.SyndromeRowsFlipTheirBit : Prop :=
  ∀ (r : Byte) (s : State), ∀ p ∈ [(Instr.syn0 r, (0x00 : Byte)), (.syn1 r, 0x02), (.syn2 r, 0x04), (.syn3 r, 0x40),
      (.syn4 r, 0x08), (.syn5 r, 0x20), (.syn6 r, 0x10), (.syn7 r, 0x80)],
    exec p.1 s = .next { s with result := .corrected (r ^^^ p.2) ((r ^^^ p.2).extractLsb' 4 4) }

/-- R117: decoding what the encoder gives returns the nibble, and the byte; no syndrome and no parity mismatch. -/
def Obligations.RoundTripGivesBackNibbleAndByte : Prop :=
  ∀ s : State,
    (∀ n : Nibble, ∃ cw : Byte, exec (.encn n) s = .next { s with result := .codeword cw } ∧
      exec (.decn cw) s = .next { s with result := .nibble n 0 }) ∧
    (∀ b : Byte, ∃ e0 e1 : Byte, exec (.encb b) s = .next { s with result := .bytePair e0 e1 } ∧
      exec (.decb e0 e1) s = .next { s with result := .byte b true true 0 0 })

/-- R118: one flipped bit, the parity bit included, is corrected; the parities then differ. -/
def Obligations.SingleBitErrorsAreCorrected : Prop :=
  ∀ (n : Nibble) (k : Fin 8) (s : State), ∃ (cw : Byte) (y : Syndrome) (f : Bool),
    exec (.encn n) s = .next { s with result := .codeword cw } ∧
    exec (.decn (cw ^^^ (1#8 <<< k.val))) s = .next { s with result := .nibble n y } ∧
    exec (.parchk (cw ^^^ (1#8 <<< k.val))) s = .next { s with result := .parity false true f }

/-- Two flipped bits leave the parities equal; both among bits 1 to 7, the nibble is always wrong; one of them bit 0, it is
right. R110, which the specification derives by enumeration ("two bits set, both in bits 1..7"); in both variants of
conflict C1. -/
def Obligations.DoubleErrorsAreMiscorrected : Prop :=
  ∀ (v : Variant) (n : Nibble) (j k : Fin 8), j < k →
    parMatch (encn v n ^^^ (1#8 <<< j.val) ^^^ (1#8 <<< k.val)) = true ∧
    (decn v (encn v n ^^^ (1#8 <<< j.val) ^^^ (1#8 <<< k.val)) = n ↔ j = 0)

/-- Every byte's bits 7 to 1 are within one bit of exactly one valid codeword's, and the decoder answers its nibble. R110,
which the specification derives by enumeration ("always returns the data nibble of that nearest codeword"); in both
variants. -/
def Obligations.DecnFindsTheNearestCodeword : Prop :=
  ∀ (v : Variant) (r : Byte) (n : Nibble), bitDistance (r >>> 1) (encn v n >>> 1) ≤ 1 ↔ n = decn v r

/-- The code is linear, its words differ in at least 4 bits, and in at least 3 of bits 1 to 7; every codeword but those of 0x0
and 0xF has four ones. R104, which the specification derives by enumeration. -/
def Obligations.CodeIsLinearWithDistanceFour : Prop :=
  (∀ a b : Nibble, encn .a (a ^^^ b) = encn .a a ^^^ encn .a b) ∧
  (∀ a b : Nibble, a ≠ b →
    4 ≤ bitDistance (encn .a a) (encn .a b) ∧ 3 ≤ bitDistance (encn .a a >>> 1) (encn .a b >>> 1)) ∧
  (∀ a : Nibble, a ≠ 0x0 → a ≠ 0xF → bitDistance (encn .a a) 0 = 4) ∧ encn .a 0xF = 0xFF

/-- Syndrome and parity read together, for at most two flipped bits: the table of R116, which the specification derives from
R110 and R111; in both variants. -/
def Obligations.SyndromeAndParityTellWhatHappened : Prop :=
  ∀ (v : Variant) (n : Nibble) (r : Byte), bitDistance r (encn v n) ≤ 2 →
    (syndrome v r = 0 ∧ parMatch r = true → r = encn v n) ∧
    (syndrome v r = 0 ∧ parMatch r = false → r = encn v n ^^^ 1) ∧
    (syndrome v r ≠ 0 ∧ parMatch r = false →
      bitDistance r (encn v n) = 1 ∧ r.getLsbD 0 = (encn v n).getLsbD 0 ∧ decn v r = n) ∧
    (syndrome v r ≠ 0 ∧ parMatch r = true →
      bitDistance r (encn v n) = 2 ∧ (decn v r = n ↔ r.getLsbD 0 ≠ (encn v n).getLsbD 0))

/-! ### Digits, builders, tags -/

/-- R130, R131: the digits of the value in ASCII, most significant first, upper digits dropped. -/
def Obligations.DigitOperationsGiveAsciiDigits : Prop :=
  ∀ s : State,
    (∀ v : U16, ∃ h t o : Byte, exec (.dig3 v) s = .next { s with result := .digits3 h t o } ∧
      h.toNat = v.toNat / 100 % 10 + 0x30 ∧ t.toNat = v.toNat / 10 % 10 + 0x30 ∧ o.toNat = v.toNat % 10 + 0x30) ∧
    (∀ v : Byte, ∃ t o : Byte, exec (.dig2 v) s = .next { s with result := .digits2 t o } ∧
      t.toNat = v.toNat / 10 % 10 + 0x30 ∧ o.toNat = v.toNat % 10 + 0x30)

/-- R134: the XYZ frame, byte by byte. -/
def Obligations.BuildXyzLaysOutItsFrame : Prop :=
  ∀ (a : Address) (x y : U16) (z : Byte) (s : State), ∃ f : Frame,
    exec (.buildXyz a x y z) s = .next { s with result := .frame f } ∧
    f[0] = 0x22 ∧ (∀ k : Fin 4, f[k.val + 1] = a[k]) ∧ f[5] = 0x58 ∧ f[6] = 0x59 ∧ f[7] = 0x5A ∧
    f[8].toNat = x.toNat / 100 % 10 + 0x30 ∧ f[9].toNat = x.toNat / 10 % 10 + 0x30 ∧ f[10].toNat = x.toNat % 10 + 0x30 ∧
    f[11].toNat = y.toNat / 100 % 10 + 0x30 ∧ f[12].toNat = y.toNat / 10 % 10 + 0x30 ∧
    f[13].toNat = y.toNat % 10 + 0x30 ∧
    f[14].toNat = z.toNat / 10 % 10 + 0x30 ∧ f[15].toNat = z.toNat % 10 + 0x30

/-- R135: the ROT frame, byte by byte. -/
def Obligations.BuildRotLaysOutItsFrame : Prop :=
  ∀ (a : Address) (angle : Byte) (s : State), ∃ f : Frame,
    exec (.buildRot a angle) s = .next { s with result := .frame f } ∧
    f[0] = 0x23 ∧ (∀ k : Fin 4, f[k.val + 1] = a[k]) ∧ f[5] = 0x52 ∧ f[6] = 0x4F ∧ f[7] = 0x54 ∧
    f[8].toNat = angle.toNat / 100 % 10 + 0x30 ∧ f[9].toNat = angle.toNat / 10 % 10 + 0x30 ∧
    f[10].toNat = angle.toNat % 10 + 0x30 ∧ ∀ k : Fin 5, f[k.val + 11] = 0x00

/-- R136 to R139: the VAC and JOIN frames, whole. -/
def Obligations.VacAndJoinBuildersLayOutTheirFrames : Prop :=
  ∀ (a : Address) (s : State),
    let von : Frame := #v[0x24, a[0], a[1], a[2], a[3], 0x56, 0x4F, 0x4E, 0, 0, 0, 0, 0, 0, 0, 0]
    let voff : Frame := #v[0x24, a[0], a[1], a[2], a[3], 0x56, 0x4F, 0x46, 0x46, 0, 0, 0, 0, 0, 0, 0]
    let join : Frame := #v[0x20, a[0], a[1], a[2], a[3], 0x4A, 0x4F, 0x49, 0x4E, 0, 0, 0, 0, 0, 0, 0]
    exec (.buildVon a) s = .next { s with result := .frame von } ∧
    exec (.buildVoff a) s = .next { s with result := .frame voff } ∧
    exec (.buildVac a true) s = .next { s with result := .frame von } ∧
    exec (.buildVac a false) s = .next { s with result := .frame voff } ∧
    exec (.buildJoin a) s = .next { s with result := .frame join }

/-- On the values HLC uses, distinct values give distinct frames (R144, which the specification derives). -/
def Obligations.BuildersAreInjectiveOnReachableValues : Prop :=
  ∀ (a : Address) (p q : Act), actInRange p → actInRange q →
    (buildXyz a p.x p.y p.z = buildXyz a q.x q.y q.z → p.x = q.x ∧ p.y = q.y ∧ p.z = q.z) ∧
    (buildRot a p.angle = buildRot a q.angle → p.angle = q.angle)

/-- The four tags of R73, each the value of byte 0 of the frames that carry it. That a tag row, presented as an operation,
answers its constant is the model's choice (log entry 17). -/
def Obligations.TagRowsGiveByteZeroOfTheirFrames : Prop :=
  ∀ s : State,
    exec .tagJoin s = .next { s with result := .tag 0x20 } ∧ exec .tagXyz s = .next { s with result := .tag 0x22 } ∧
    exec .tagRot s = .next { s with result := .tag 0x23 } ∧ exec .tagVac s = .next { s with result := .tag 0x24 } ∧
    ∀ (a : Address) (x y : U16) (z angle : Byte) (on : Bool),
      (buildJoin a)[0] = 0x20 ∧ (buildXyz a x y z)[0] = 0x22 ∧ (buildRot a angle)[0] = 0x23 ∧ (buildVac a on)[0] = 0x24

/-! ### Frames -/

/-- R151, R82: every lane of the encoder: byte 2i is the codeword of the low nibble of byte i, byte 2i+1 that of its high
nibble. -/
def Obligations.EncfEncodesEveryLane : Prop :=
  ∀ (u : Frame) (s : State), ∃ e : EncFrame,
    exec (.encf u) s = .next { s with result := .encFrame e } ∧
    ∀ i : Fin 16,
      exec (.encn (u[i].extractLsb' 0 4)) s = .next { s with result := .codeword e[2 * i.val] } ∧
      exec (.encn (u[i].extractLsb' 4 4)) s = .next { s with result := .codeword e[2 * i.val + 1] }

/-- R153: every lane of the decoder, with the parity outcome and the syndrome of each codeword. -/
def Obligations.DecfDecodesEveryLane : Prop :=
  ∀ (r : EncFrame) (s : State), ∃ (u : Frame) (pm : Vector Bool 32) (sy : Vector Syndrome 32),
    exec (.decf r) s = .next { s with result := .decFrame u pm sy } ∧
    (∀ i : Fin 16, ∃ lo hi : Nibble,
      exec (.decn r[2 * i.val]) s = .next { s with result := .nibble lo sy[2 * i.val] } ∧
      exec (.decn r[2 * i.val + 1]) s = .next { s with result := .nibble hi sy[2 * i.val + 1] } ∧
      u[i] = (hi.setWidth 8 <<< 4) ||| lo.setWidth 8) ∧
    ∀ j : Fin 32, ∃ f : Bool, exec (.parchk r[j]) s = .next { s with result := .parity pm[j] (!pm[j]) f }

/-- The frame round trip, with every parity outcome a match (R155, which the specification derives lane by lane), in both
variants of conflict C1. -/
def Obligations.FrameRoundTripInBothVariants : Prop :=
  ∀ (v : Variant) (u : Frame), decf v (encf v u) = u ∧ ∀ j : Fin 32, (decfParity (encf v u))[j] = true

/-- R156, which the specification derives, in both variants: at most one flipped bit in each byte is corrected and shows in
exactly the parity outcomes of the bytes that differ; two flipped bits within bits 1 to 7 of a byte make its nibble wrong
under a matching parity; a nibble whose byte has at most one flipped bit is right, and its parity outcome tells, whatever
the other bytes are. -/
def Obligations.FrameErrorsAreCorrectedLaneByLane : Prop :=
  ∀ (v : Variant) (u : Frame) (r : EncFrame),
    ((∀ j : Fin 32, bitDistance r[j] (encf v u)[j] ≤ 1) →
      decf v r = u ∧ ∀ j : Fin 32, (decfParity r)[j] = decide (r[j] = (encf v u)[j])) ∧
    (∀ j : Fin 32, bitDistance r[j] (encf v u)[j] = 2 → r[j].getLsbD 0 = (encf v u)[j].getLsbD 0 →
      nibbleAt (decf v r) j ≠ nibbleAt u j ∧ (decfParity r)[j] = true) ∧
    (∀ j : Fin 32, bitDistance r[j] (encf v u)[j] ≤ 1 →
      nibbleAt (decf v r) j = nibbleAt u j ∧ (decfParity r)[j] = decide (r[j] = (encf v u)[j]))

/-- The codec (R100), the builders (R141) and the frame codec (R150) read no state and write none but the record of their own
outputs, and always answer. That the SYN rows and the TAG rows, presented as operations, are functions in the same sense is
the model's choice (log entries 16 and 17), and so is the record of the outputs (log entry 1). -/
def Obligations.PureFunctionsNeitherReadNorWriteState : Prop :=
  ∀ i : Instr, pureFunction i = true → ∃ r : OpResult, ∀ s : State, exec i s = .next { s with result := r }

/-! ### The Controller and the key events -/

/-- In IDLE the key of the line is saved in `last_key` and the Controller goes to DISPLAYING, whatever the key (R167; the line
`ctrl Kx` of decision D27). That a key row presented as an operation is that line is the model's choice (log entry 4), and
so is the bound that this key's wait on a full queue gets, a free value (log entry 7). -/
def Obligations.KeysAreAcceptedInIdle : Prop :=
  ∀ p ∈ keyEvents, ∀ s : State, s.ctrl = .idle →
    exec p.2 s = .next { s with
      lastKey := p.1
      ctrl := .displaying
      keyAnswer := none
      waitLeft := Config.queueWait s.keysAccepted
      keysAccepted := s.keysAccepted + 1 }

/-- Outside IDLE the Controller does not poll, and a key line is read as the step its state selects (R97, decision D27); so
in DISPLAYING, with the key in `last_key`, the key row has the key's own effect. That a key row presented as an operation
is that line is the model's choice (log entry 4). -/
def Obligations.KeyLinesOutsideIdleRunTheControllersStep : Prop :=
  ∀ p ∈ keyEvents, ∀ s : State,
    (s.ctrl ≠ .idle → exec p.2 s = exec (selectedCtrlRow s) s) ∧
    (s.ctrl = .displaying → s.lastKey = p.1 → exec p.2 s = .next { s with
      act := keyEffect p.1 s.act
      rendered := s.rendered ++
        (if p.1 ∈ [Key.unrecD, .unrecE, .unrecF] then [] else [displayCommand p.1 (keyEffect p.1 s.act)])
      ctrl := .transmitting })

/-- R174 to R182: with a grid key in `last_key`, DISPLAYING writes its grid point to x and y, renders once with the key's
cursor and the new z and angle, and goes to TRANSMITTING, which pushes the XYZ frame. -/
def Obligations.GridKeysSetTheirGridPoint : Prop :=
  ∀ p ∈ [(Key.k1, (0 : U16), (150 : U16)), (.k2, 75, 150), (.k3, 150, 150), (.k4, 0, 75), (.k5, 75, 75),
      (.k6, 150, 75), (.k7, 0, 0), (.k8, 75, 0), (.k9, 150, 0)],
    ∀ s : State, s.ctrl = .displaying → s.lastKey = p.1 →
      let act' : Act := { s.act with x := p.2.1, y := p.2.2 }
      let dc : DisplayCommand :=
        ⟨(Config.cursorGrid p.1).1, (Config.cursorGrid p.1).2, Config.label p.1 act', s.act.z, s.act.angle⟩
      let t : State := { s with act := act', rendered := s.rendered ++ [dc], ctrl := .transmitting }
      exec .cDisplaying s = .next t ∧
      (s.queue.length < 10 → exec .cTransmitting t =
        .next { t with queue := s.queue ++ [buildXyz s.senderAddr p.2.1 p.2.2 s.act.z], ctrl := .idle })

/-- R183: KA lowers z by 10 unless z is below 10, shows it, and sends the XYZ frame of the new z. -/
def Obligations.KaLowersZ : Prop :=
  ∀ s : State, s.ctrl = .displaying → s.lastKey = .ka →
    ∃ z' : Byte, z'.toNat = (if s.act.z.toNat < 10 then s.act.z.toNat else s.act.z.toNat - 10) ∧
      let act' : Act := { s.act with z := z' }
      let dc : DisplayCommand :=
        ⟨(Config.cursorOther .ka act').1, (Config.cursorOther .ka act').2, Config.label .ka act', z', s.act.angle⟩
      let t : State := { s with act := act', rendered := s.rendered ++ [dc], ctrl := .transmitting }
      exec .cDisplaying s = .next t ∧
      (s.queue.length < 10 → exec .cTransmitting t =
        .next { t with queue := s.queue ++ [buildXyz s.senderAddr s.act.x s.act.y z'], ctrl := .idle })

/-- R184: KB raises z by 10 unless z is above 80, shows it, and sends the XYZ frame of the new z. -/
def Obligations.KbRaisesZ : Prop :=
  ∀ s : State, s.ctrl = .displaying → s.lastKey = .kb →
    ∃ z' : Byte, z'.toNat = (if s.act.z.toNat > 80 then s.act.z.toNat else s.act.z.toNat + 10) ∧
      let act' : Act := { s.act with z := z' }
      let dc : DisplayCommand :=
        ⟨(Config.cursorOther .kb act').1, (Config.cursorOther .kb act').2, Config.label .kb act', z', s.act.angle⟩
      let t : State := { s with act := act', rendered := s.rendered ++ [dc], ctrl := .transmitting }
      exec .cDisplaying s = .next t ∧
      (s.queue.length < 10 → exec .cTransmitting t =
        .next { t with queue := s.queue ++ [buildXyz s.senderAddr s.act.x s.act.y z'], ctrl := .idle })

/-- R185: KC raises the angle by 10 to at most 170, leaves an angle above 170 alone, shows it, and sends the ROT frame. -/
def Obligations.KcRaisesTheAngle : Prop :=
  ∀ s : State, s.ctrl = .displaying → s.lastKey = .kc →
    ∃ g : Byte, g.toNat = (if s.act.angle.toNat > 170 then s.act.angle.toNat else min (s.act.angle.toNat + 10) 170) ∧
      let act' : Act := { s.act with angle := g }
      let dc : DisplayCommand :=
        ⟨(Config.cursorOther .kc act').1, (Config.cursorOther .kc act').2, Config.label .kc act', s.act.z, g⟩
      let t : State := { s with act := act', rendered := s.rendered ++ [dc], ctrl := .transmitting }
      exec .cDisplaying s = .next t ∧
      (s.queue.length < 10 → exec .cTransmitting t =
        .next { t with queue := s.queue ++ [buildRot s.senderAddr g], ctrl := .idle })

/-- R186: K0 toggles the actuator, shows it, and sends "VON" if it has just been turned on, "VOFF" if off. -/
def Obligations.K0TogglesTheActuator : Prop :=
  ∀ s : State, s.ctrl = .displaying → s.lastKey = .k0 →
    let act' : Act := { s.act with on := !s.act.on }
    let dc : DisplayCommand :=
      ⟨(Config.cursorOther .k0 act').1, (Config.cursorOther .k0 act').2, Config.label .k0 act', s.act.z, s.act.angle⟩
    let t : State := { s with act := act', rendered := s.rendered ++ [dc], ctrl := .transmitting }
    exec .cDisplaying s = .next t ∧
    (s.queue.length < 10 → exec .cTransmitting t = .next { t with
      queue := s.queue ++ [if s.act.on then buildVoff s.senderAddr else buildVon s.senderAddr], ctrl := .idle })

/-- R187: an unrecognised code shows nothing, changes nothing, sends nothing, and walks the cycle. -/
def Obligations.UnrecognisedKeysHaveNoEffect : Prop :=
  ∀ k ∈ [Key.unrecD, .unrecE, .unrecF], ∀ s : State, s.lastKey = k →
    (s.ctrl = .displaying → exec .cDisplaying s = .next { s with ctrl := .transmitting }) ∧
    (s.ctrl = .transmitting → exec .cTransmitting s = .next { s with ctrl := .idle })

/-- R166, R211: INIT goes to IDLE and does nothing else, in both state machines. -/
def Obligations.InitStepsGoToIdle : Prop :=
  (∀ s : State, s.ctrl = .init → exec .cInit s = .next { s with ctrl := .idle }) ∧
  ∀ s : State, s.link = .init → exec .lInit s = .next { s with link := .idle }

/-- R167: no event, nothing changes; an event is consumed, recorded, and the Controller goes to DISPLAYING. What the two
counters of the model's own (`waitLeft`, `keysAccepted`; log entry 7) then hold is left open here. -/
def Obligations.CIdlePollsTheKeypad : Prop :=
  ∀ s : State, s.ctrl = .idle →
    (s.keyAnswer = none → exec .cIdle s = .next s) ∧
    (∀ k : Key, s.keyAnswer = some k → ∃ w c : Nat, exec .cIdle s =
      .next { s with keyAnswer := none, lastKey := k, ctrl := .displaying, waitLeft := w, keysAccepted := c })

/-- DISPLAYING writes `act` and `ctrl_state` only, renders exactly once for a recognised key and never for another, with the
new z and angle, and always goes to TRANSMITTING (from R168, R188; the effects themselves are the statements per key). -/
def Obligations.CDisplayingRendersOnceAndGoesOn : Prop :=
  ∀ s : State, s.ctrl = .displaying → ∃ (a : Act) (dcs : List DisplayCommand),
    exec .cDisplaying s = .next { s with act := a, rendered := s.rendered ++ dcs, ctrl := .transmitting } ∧
    dcs.length = (if s.lastKey = .unrecD ∨ s.lastKey = .unrecE ∨ s.lastKey = .unrecF then 0 else 1) ∧
    ∀ dc ∈ dcs, dc.z = a.z ∧ dc.angle = a.angle

/-- R189: with room in the queue the frame of the last key, built from `act` and the sender address, goes to the tail, and the
Controller to IDLE. -/
def Obligations.CTransmittingPushesTheFrame : Prop :=
  ∀ s : State, s.ctrl = .transmitting → s.queue.length < 10 →
    (s.lastKey ∈ [Key.k1, .k2, .k3, .k4, .k5, .k6, .k7, .k8, .k9, .ka, .kb] → exec .cTransmitting s =
      .next { s with queue := s.queue ++ [buildXyz s.senderAddr s.act.x s.act.y s.act.z], ctrl := .idle }) ∧
    (s.lastKey = .kc → exec .cTransmitting s =
      .next { s with queue := s.queue ++ [buildRot s.senderAddr s.act.angle], ctrl := .idle }) ∧
    (s.lastKey = .k0 → exec .cTransmitting s =
      .next { s with queue := s.queue ++ [if s.act.on then buildVon s.senderAddr else buildVoff s.senderAddr],
                     ctrl := .idle })

/-- With the queue full the Controller waits in TRANSMITTING, nothing of HLC changed, or drops the frame and goes to IDLE: the
two alternatives R190 leaves open; and the first "cannot be taken for ever": over any Controller turns, whatever keys and
waits they bring, one of the next `waitLeft + 1` drops the frame. Which alternative a step takes is the input `waitExpired`
and the free bound that `waitLeft` counts down, the model's choice (log entry 7; placed turns are log entry 3). -/
def Obligations.FullQueueWaitsOrDrops : Prop :=
  ∀ s : State, s.ctrl = .transmitting → s.queue.length = 10 → s.lastKey ∉ [Key.unrecD, .unrecE, .unrecF] →
    (∀ n : Nat, s.waitExpired = false → s.waitLeft = n + 1 → exec .cTransmitting s = .next { s with waitLeft := n }) ∧
    (s.waitExpired = true ∨ s.waitLeft = 0 → exec .cTransmitting s = .next { s with ctrl := .idle }) ∧
    ∀ turns : List Stimulus, (∀ c ∈ turns, ∃ k e, c = .ctrl k e) → turns.length = s.waitLeft + 1 →
      ∃ (n : Nat) (t : State), n ≤ s.waitLeft + 1 ∧
        Host.Core.run Sys2Proof.core n { s with stimulus := turns } = .next t ∧
        t.ctrl = .idle ∧ t.queue = s.queue ∧ t.act = s.act ∧ t.lastKey = s.lastKey ∧ t.sent = s.sent ∧
        t.rendered = s.rendered

/-- A recognised key accepted in IDLE is shown once and its frame, built from the new `act`, is pushed by the second following
step; the Controller is back in IDLE (R191 and R196, which the specification derives; the key line is log entry 4, the bound
of the wait log entry 7). -/
def Obligations.KeyPressRunsToItsFrame : Prop :=
  ∀ p ∈ keyEvents, ∀ (s : State) (f : Frame), s.ctrl = .idle → s.queue.length < 10 →
    messageFor s.senderAddr (keyEffect p.1 s.act) p.1 = some f →
    pressKey p.2 s = .next { s with
      lastKey := p.1
      keyAnswer := none
      act := keyEffect p.1 s.act
      rendered := s.rendered ++ [displayCommand p.1 (keyEffect p.1 s.act)]
      queue := s.queue ++ [f]
      waitLeft := Config.queueWait s.keysAccepted
      keysAccepted := s.keysAccepted + 1 }

/-- Two K0 presses restore the actuator, and their frames are of the two VAC kinds in turn (R186, "two consecutive K0 presses
restore"; the key line is log entry 4, the bound of the wait log entry 7). -/
def Obligations.TwoK0PressesRestoreTheActuator : Prop :=
  ∀ s : State, s.ctrl = .idle → s.queue.length < 9 → ∃ dcs : List DisplayCommand, dcs.length = 2 ∧
    chain (pressKey .k0 s) (pressKey .k0) = .next { s with
      lastKey := .k0
      keyAnswer := none
      rendered := s.rendered ++ dcs
      queue := s.queue ++ (if s.act.on then [buildVoff s.senderAddr, buildVon s.senderAddr]
        else [buildVon s.senderAddr, buildVoff s.senderAddr])
      waitLeft := Config.queueWait (s.keysAccepted + 1)
      keysAccepted := s.keysAccepted + 2 }

/-- From 0, the n-th KB leaves z at 10 n but never above 90, and the n-th KC leaves the angle at 10 n but never above 170: the
corner cases of R184 and R185 as conflicts C2 and C3 settle them. -/
def Obligations.RepeatedKeysStopAtTheirCeilings : Prop :=
  ∀ (n : Nat) (a : Act),
    (a.z = 0 → (effectKB^[n] a).z.toNat = min (10 * n) 90) ∧
    (a.angle = 0 → (effectKC^[n] a).angle.toNat = min (10 * n) 170)

/-! ### The Radio Link -/

/-- A row whose condition (R166 to R169, R211 to R214) does not hold is refused by its name, the model's choice (log entry
20): the state machine cannot take that step there. -/
def Obligations.RowsNotSelectedAreRefused : Prop :=
  ∀ s : State,
    (s.ctrl ≠ .init → exec .cInit s = .refused (.notSelected .cInit)) ∧
    (s.ctrl ≠ .idle → exec .cIdle s = .refused (.notSelected .cIdle)) ∧
    (s.ctrl ≠ .displaying → exec .cDisplaying s = .refused (.notSelected .cDisplaying)) ∧
    (s.ctrl ≠ .transmitting → exec .cTransmitting s = .refused (.notSelected .cTransmitting)) ∧
    (s.link ≠ .init → exec .lInit s = .refused (.notSelected .lInit)) ∧
    (s.link ≠ .idle → exec .lIdle s = .refused (.notSelected .lIdle)) ∧
    (s.link ≠ .encode → exec .lEncode s = .refused (.notSelected .lEncode)) ∧
    (s.link ≠ .transmit → exec .lTransmit s = .refused (.notSelected .lTransmit))

/-- R212, R245, R68: a pending join trigger is taken first, cleared and marked, and its frame fills `link.active`, the queue
untouched; else the head of the queue is popped and copied whole; else nothing changes. -/
def Obligations.LIdleTakesTheTriggerThenTheQueue : Prop :=
  ∀ s : State, s.link = .idle →
    (s.joinPending = true → ∃ m : Memory,
      exec .lIdle s = .next { s with active := m, joinPending := false, joinInProgress := true, link := .encode } ∧
      (∀ a : Fin 16, Memory.read m a.val = some (buildJoin s.senderAddr)[a]) ∧
      ∀ a, 16 ≤ a → Memory.read m a = Memory.read s.active a) ∧
    (∀ (f : Frame) (q : List Frame), s.joinPending = false → s.queue = f :: q → ∃ m : Memory,
      exec .lIdle s = .next { s with active := m, queue := q, link := .encode } ∧
      (∀ a : Fin 16, Memory.read m a.val = some f[a]) ∧
      ∀ a, 16 ≤ a → Memory.read m a = Memory.read s.active a) ∧
    (s.joinPending = false → s.queue = [] → exec .lIdle s = .next s)

/-- All 16 bytes of `link.active` go through the frame encoder into all 32 bytes of `link.encoded` (R213), and nothing else
changes. That the bytes of `link.active`, dead from then on (R69, U8), are still there is the model's choice (log entry
15). -/
def Obligations.LEncodeEncodesTheActiveFrame : Prop :=
  ∀ (s : State) (u : Frame), s.link = .encode → (∀ a : Fin 16, Memory.read s.active a.val = some u[a]) →
    ∃ (m : Memory) (e : EncFrame),
      exec (.encf u) s = .next { s with result := .encFrame e } ∧
      exec .lEncode s = .next { s with encoded := m, link := .transmit } ∧
      (∀ a : Fin 32, Memory.read m a.val = some e[a]) ∧
      ∀ a, 32 ≤ a → Memory.read m a = Memory.read s.encoded a

/-- One `Send` of the 32 bytes, the mark cleared, back to IDLE (R214), and nothing else changes. That the bytes of
`link.encoded`, dead from then on (R69, U8), are still there is the model's choice (log entry 15). -/
def Obligations.LTransmitSendsTheEncodedFrame : Prop :=
  ∀ (s : State) (e : EncFrame), s.link = .transmit → (∀ a : Fin 32, Memory.read s.encoded a.val = some e[a]) →
    exec .lTransmit s = .next { s with sent := s.sent ++ [e], joinInProgress := false, link := .idle }

/-- Reading a buffer that has not been written whole is a fault of the model (R41, which the specification derives: "reading it
first is a fault of the model"; log entry 6). -/
def Obligations.UnwrittenBuffersFault : Prop :=
  ∀ s : State,
    (s.link = .encode → (∃ a : Fin 16, Memory.read s.active a.val = none) →
      ∃ a : Fin 16, Memory.read s.active a.val = none ∧ exec .lEncode s = .fault (.unwritten .active a.val)) ∧
    (s.link = .transmit → (∃ a : Fin 32, Memory.read s.encoded a.val = none) →
      ∃ a : Fin 32, Memory.read s.encoded a.val = none ∧ exec .lTransmit s = .fault (.unwritten .encoded a.val))

/-- With no join trigger, `3 k` Radio Link steps from IDLE send the first `k` queued frames, encoded and in order (R222, which
the specification derives: "each cycle IDLE, ENCODE, TRANSMIT serves one frame in three steps"). The turns are choices placed
in the state, the model's choice (log entry 3). -/
def Obligations.QueueDrainsInThreeStepsPerFrame : Prop :=
  ∀ (s : State) (k : Nat) (rest : List Stimulus), s.link = .idle → s.joinPending = false → k ≤ s.queue.length →
    ∃ t : State, Host.Core.run Sys2Proof.core (3 * k) { s with stimulus := List.replicate (3 * k) .link ++ rest } = .next t ∧
      t.sent = s.sent ++ (s.queue.take k).map (encf Config.hammingVariant) ∧ t.queue = s.queue.drop k ∧
      t.link = .idle ∧ t.stimulus = rest ∧ t.act = s.act ∧ t.ctrl = s.ctrl ∧ t.lastKey = s.lastKey

/-! ### The environment, reset, the whole machine -/

/-- R65: the whole effect of a trigger (R251); a second one is merged into the first. -/
def Obligations.JoinTriggerSetsJoinPending : Prop :=
  ∀ s : State, exec .joinTrigger s = .next { s with joinPending := true } ∧
    (s.joinPending = true → exec .joinTrigger s = .next s)

/-- The reset event leaves every element of HLC's state at its reset value, whatever the state was, and nothing else changed.
The values of `last_key` and of the two buffers are the model's choice (log entries 5 and 6), and so is that the lines of
the interface stay (log entry 13), with the model's own wait counters (log entry 7). -/
def Obligations.ResetPutsEveryElementToItsResetValue : Prop :=
  ∀ s : State, exec .reset s = .next { s with
    act := ⟨0, 0, 0, 0, false⟩
    ctrl := .init
    link := .init
    queue := []
    joinPending := false
    joinInProgress := false
    lastKey := .k0
    active := []
    encoded := [] }

/-- R40, R270: what the specification says every element holds after reset, both in the initial state and after a reset
event in any state; the three elements it leaves unspecified are not mentioned. -/
def Obligations.ResetLeavesTheStatedValues : Prop :=
  let stated : State → Prop := fun t =>
    t.act.x = 0 ∧ t.act.y = 0 ∧ t.act.z = 0 ∧ t.act.angle = 0 ∧ t.act.on = false ∧ t.ctrl = .init ∧ t.link = .init ∧
    t.queue = [] ∧ t.joinPending = false ∧ t.joinInProgress = false
  stated State.reset ∧ ∀ s : State, ∃ t : State, exec .reset s = .next t ∧ stated t

/-- The invariant of the reachable states holds at reset (from R38, R39, R41 and R218, the first three derived by the
specification). -/
def Obligations.InvHoldsAtReset : Prop := CoreInv State.reset

/-- Every step of every agent, under every choice of the environment, keeps the invariant of the reachable states: `act` in
range (R38, R192, derived by the specification), the queue bounded and of Controller frames only (R39, derived), the
buffers in canonical form and written whole before they are read (R41, derived; R219), the mark exactly on the JOIN frame's
own cycle (R218), every frame sent the encoding of an accepted one (R221, derived). -/
def Obligations.EveryStepKeepsInv : Prop :=
  ∀ s t : State, CoreInv s → step s = .next t → CoreInv t

/-- In every state with the invariant, every step of the Controller, of the Radio Link and of the environment has a next state:
no fault, no refusal (R235, "every step is defined in every reachable state"). -/
def Obligations.EveryAgentStepCompletes : Prop :=
  ∀ s : State, CoreInv s → (∀ w : OpWord, (takeStimulus s).1 ≠ .use w) → Completes (step s)

/-- No operation but reset loses, repeats, reorders or alters a pushed frame: the history of pushed frames, those sent, the one
in flight and those queued, grows at its end by exactly the frame pushed (from R57, R61 and R221). -/
def Obligations.PushedFramesAreSentInOrder : Prop :=
  ∀ (i : Instr) (s t : State), i ≠ .reset → CoreInv s → exec i s = .next t →
    pushedHistory t = pushedHistory s ++ framePushed i s

/-- A Controller turn leaves all of the Radio Link's state alone and only appends to the queue; a Radio Link turn leaves all
of the Controller's state alone and only removes the head (from R42 and R249, "Each task owns its local state
exclusively"). -/
def Obligations.EachAgentWritesItsOwnStateOnly : Prop :=
  (∀ i ∈ controllerTurns, ∀ s t : State, exec i s = .next t →
    t.link = s.link ∧ t.active = s.active ∧ t.encoded = s.encoded ∧ t.joinPending = s.joinPending ∧
    t.joinInProgress = s.joinInProgress ∧ t.sent = s.sent ∧ t.senderAddr = s.senderAddr ∧
    (t.queue = s.queue ∨ ∃ f, t.queue = s.queue ++ [f])) ∧
  (∀ i ∈ radioLinkTurns, ∀ s t : State, exec i s = .next t →
    t.act = s.act ∧ t.ctrl = s.ctrl ∧ t.lastKey = s.lastKey ∧ t.keyAnswer = s.keyAnswer ∧ t.rendered = s.rendered ∧
    t.senderAddr = s.senderAddr ∧ (t.queue = s.queue ∨ ∃ f, s.queue = f :: t.queue))

/-- R193: no operation but a Controller turn in DISPLAYING changes `act`, and that one by the effect of the last key; reset
alone puts it back. In the same way `last_key` changes in a Controller turn in IDLE only, and `SENDER_ADDR` never. -/
def Obligations.ActIsWrittenByDisplayingOnly : Prop :=
  (∀ (i : Instr) (s t : State), i ≠ .reset → exec i s = .next t →
    (t.act ≠ s.act → i ∈ controllerTurns ∧ s.ctrl = .displaying ∧ t.act = keyEffect s.lastKey s.act) ∧
    (t.lastKey ≠ s.lastKey → i ∈ controllerTurns ∧ s.ctrl = .idle) ∧ t.senderAddr = s.senderAddr) ∧
  ∀ s : State, ∃ t : State, exec .reset s = .next t ∧ t.act = ⟨0, 0, 0, 0, false⟩ ∧ t.senderAddr = s.senderAddr

/-- What a Radio Link turn does does not depend on the Controller's state, nor a Controller turn on the Radio Link's (from R223,
which the specification derives, and R61). -/
def Obligations.AgentsDoNotReadEachOthersState : Prop :=
  (∀ i ∈ radioLinkTurns, ∀ (s : State) (a : Act) (c : CtrlState) (k : Key),
    exec i { s with act := a, ctrl := c, lastKey := k } =
      mapNext (fun t => { t with act := a, ctrl := c, lastKey := k }) (exec i s)) ∧
  (∀ i ∈ controllerTurns, ∀ (s : State) (l : LinkState) (m n : Memory) (p g : Bool),
    exec i { s with link := l, active := m, encoded := n, joinPending := p, joinInProgress := g } =
      mapNext (fun t => { t with link := l, active := m, encoded := n, joinPending := p, joinInProgress := g }) (exec i s))

/-- A step runs the operation that the next choice presents: the word of a use, the row the state register selects for `ctrl`
and `link`, the key event of `ctrl Kx`, the two events; and with no choice placed, that of the free environment (the agents
of R285 and the lines of R97, both decisions of the specification; the list of choices is log entry 3). -/
def Obligations.StepRunsTheDecodedInstruction : Prop :=
  ∀ (s : State) (rest : List Stimulus),
    (∀ (w : OpWord) (i : Instr), s.stimulus = .use w :: rest → decode w = .ok i → i.wellFormed = true →
      step s = exec i { s with stimulus := rest }) ∧
    (∀ e : Bool, s.stimulus = .ctrl none e :: rest →
      step s = exec (selectedCtrlRow s) { s with stimulus := rest, keyAnswer := none, waitExpired := e }) ∧
    (∀ p ∈ keyEvents, ∀ e : Bool, s.stimulus = .ctrl (some p.1) e :: rest →
      step s = exec p.2 { s with stimulus := rest, keyAnswer := none, waitExpired := e }) ∧
    (s.stimulus = .link :: rest → step s = exec (selectedLinkRow s) { s with stimulus := rest }) ∧
    (s.stimulus = .join :: rest → step s = exec .joinTrigger { s with stimulus := rest }) ∧
    (s.stimulus = .rst :: rest → step s = exec .reset { s with stimulus := rest }) ∧
    (s.stimulus = [] → step s = step { s with stimulus := [Config.environment s.tick], tick := s.tick + 1 })

/-- Words written out from the specification's encodings (R74, R75, R78, R73, R108) decode to their operations, and the unknown
tag 0x21 (R90) and a byte above the 4-bit key code are rejected by name (log entry 2). Every frame that the mask of the XYZ
or of the ROT row matches, "of each digit byte only the high nibble" (R89), is of that row, with the frame's address (what
digits above '9' and angles above 255 stand for is free, log entry 18). -/
def Obligations.WordsDecodeToTheirOperations : Prop :=
  decode ⟨.key, [0b00001011]⟩ = .ok .kb ∧ decode ⟨.key, [0b00001110]⟩ = .ok .kunrecE ∧
  decode ⟨.ctrlState, [0b10]⟩ = .ok .cDisplaying ∧ decode ⟨.linkState, [0b11]⟩ = .ok .lTransmit ∧
  decode ⟨.tag, [0b00100100]⟩ = .ok .tagVac ∧ decode ⟨.syndrome, [0b110, 0x3B]⟩ = .ok (.syn6 0x3B) ∧
  decode ⟨.frame, [0x23, 0x47, 0x41, 0x85, 0x89, 0x52, 0x4F, 0x54, 0x31, 0x37, 0x30, 0, 0, 0, 0, 0]⟩ =
    .ok (.buildRot #v[0x47, 0x41, 0x85, 0x89] 170) ∧
  decode ⟨.tag, [0x21]⟩ = .error .unknownTag ∧ decode ⟨.key, [0x10]⟩ = .error .reservedBits ∧
  (∀ f : Frame, f[0] = 0x22 → f[5] = 0x58 → f[6] = 0x59 → f[7] = 0x5A →
    (∀ k : Fin 8, f[8 + k.val].extractLsb' 4 4 = 0x3) →
    ∃ (x y : U16) (z : Byte), decode ⟨.frame, f.toList⟩ = .ok (.buildXyz #v[f[1], f[2], f[3], f[4]] x y z)) ∧
  (∀ f : Frame, f[0] = 0x23 → f[5] = 0x52 → f[6] = 0x4F → f[7] = 0x54 →
    (∀ k : Fin 3, f[8 + k.val].extractLsb' 4 4 = 0x3) → (∀ k : Fin 5, f[11 + k.val] = 0x00) →
    ∃ angle : Byte, decode ⟨.frame, f.toList⟩ = .ok (.buildRot #v[f[1], f[2], f[3], f[4]] angle))

/-- Decoding inverts encoding on every well-formed operation, with every operand at every value (from R87 and R89, which the
specification derives; the operand bytes are log entries 2 and 18). -/
def Obligations.DecodeInvertsEncode : Prop :=
  ∀ i : Instr, i.wellFormed = true → decode (encode i) = .ok i

/-- In a quiescent state the IDLE steps are the only enabled ones and change nothing (from R289): for every `n`, while the
environment offers nothing in the next `n` choices, each of the next `n` steps is one of the two IDLE rows and leaves all
but the choices taken (log entry 3) and the input of the wait (log entry 7) as it was. A state is `Quiescent` when this
holds for every `n`. -/
def Obligations.QuiescentStatesStay : Prop :=
  ∀ (n : Nat) (s : State), QuiescentFor n s →
    selectedCtrlRow s = .cIdle ∧ selectedLinkRow s = .lIdle ∧ exec .cIdle s = .next s ∧ exec .lIdle s = .next s ∧
    (0 < n → decode (fetch s).1 = .ok .cIdle ∨ decode (fetch s).1 = .ok .lIdle) ∧
    ∀ k ≤ n, ∃ t : State, Host.Core.run Sys2Proof.core k s = .next t ∧
      t = { s with stimulus := t.stimulus, tick := t.tick, waitExpired := t.waitExpired } ∧ QuiescentFor (n - k) t
end

