-- ==== Sys2Proof/Laws/Codec.lean ====
section
/-! SUPPORT. The codec's small facts, each over the sixteen nibbles or the 256 bytes of one variant, and the lanes of the
frame codec. -/

namespace Sys2Proof.Machine

open Sys2Proof

/-- The encoder in force gives the sixteen codewords (R103). -/
theorem encn_variantA (n : Nibble) :
    encn .a n = (#v[0x00, 0x1D, 0x2B, 0x36, 0x47, 0x5A, 0x6C, 0x71, 0x8E, 0x93, 0xA5, 0xB8, 0xC9, 0xD4, 0xE2, 0xFF] :
      Vector Byte 16)[n.toNat] := by
  revert n; decide

/-- Every codeword has matching parities (R111). -/
theorem parMatch_encn (v : Variant) (n : Nibble) : parMatch (encn v n) = true := by
  cases v <;> revert n <;> decide

/-- The two parity outcomes are complements (R111). -/
theorem parMismatch_eq_not (r : Byte) : parMismatch r = !parMatch r := by
  simp [parMismatch, parMatch, bne]

theorem lowNibble_joinNibbles (hi lo : Nibble) : lowNibble (joinNibbles hi lo) = lo := by
  revert hi lo; decide

theorem highNibble_joinNibbles (hi lo : Nibble) : highNibble (joinNibbles hi lo) = hi := by
  revert hi lo; decide

theorem joinNibbles_high_low (b : Byte) : joinNibbles (highNibble b) (lowNibble b) = b := by
  revert b; decide

/-- The even lanes of the encoder (R151). -/
theorem encf_even (v : Variant) (u : Frame) (i : Nat) (h : i < 16) :
    (encf v u)[2 * i] = encn v (lowNibble u[i]) := by
  simp [encf]

/-- The odd lanes of the encoder (R151). -/
theorem encf_odd (v : Variant) (u : Frame) (i : Nat) (h : i < 16) :
    (encf v u)[2 * i + 1] = encn v (highNibble u[i]) := by
  have h1 : (2 * i + 1) / 2 = i := by omega
  have h2 : (2 * i + 1) % 2 = 1 := by omega
  simp [encf, h1, h2]

/-- The lanes of the decoder (R153). -/
theorem decf_lane (v : Variant) (r : EncFrame) (i : Nat) (h : i < 16) :
    (decf v r)[i] = decb v r[2 * i] r[2 * i + 1] := by
  simp [decf]

/-- The parity outcomes of the frame decoder, codeword by codeword (R153). -/
@[simp] theorem decfParity_getElem (r : EncFrame) (j : Nat) (h : j < 32) : (decfParity r)[j] = parMatch r[j] := by
  simp [decfParity]

/-- The syndromes of the frame decoder, codeword by codeword (R153). -/
@[simp] theorem decfSyndromes_getElem (v : Variant) (r : EncFrame) (j : Nat) (h : j < 32) :
    (decfSyndromes v r)[j] = syndrome v r[j] := by
  simp [decfSyndromes]

end Sys2Proof.Machine
end

