-- ==== Sys2Proof/Laws/State.lean ====
section
/-! SUPPORT. What each one-field update of State changes and keeps: one lemma per field per update, all true by
definition. -/

namespace Sys2Proof.Machine

open Sys2Proof

@[simp] theorem State.setAct_act (s : State) (v : Act) : (s.setAct v).act = v := rfl
@[simp] theorem State.setAct_ctrl (s : State) (v : Act) : (s.setAct v).ctrl = s.ctrl := rfl
@[simp] theorem State.setAct_lastKey (s : State) (v : Act) : (s.setAct v).lastKey = s.lastKey := rfl
@[simp] theorem State.setAct_queue (s : State) (v : Act) : (s.setAct v).queue = s.queue := rfl
@[simp] theorem State.setAct_link (s : State) (v : Act) : (s.setAct v).link = s.link := rfl
@[simp] theorem State.setAct_active (s : State) (v : Act) : (s.setAct v).active = s.active := rfl
@[simp] theorem State.setAct_encoded (s : State) (v : Act) : (s.setAct v).encoded = s.encoded := rfl
@[simp] theorem State.setAct_joinPending (s : State) (v : Act) : (s.setAct v).joinPending = s.joinPending := rfl
@[simp] theorem State.setAct_joinInProgress (s : State) (v : Act) : (s.setAct v).joinInProgress = s.joinInProgress := rfl
@[simp] theorem State.setAct_senderAddr (s : State) (v : Act) : (s.setAct v).senderAddr = s.senderAddr := rfl
@[simp] theorem State.setAct_keyAnswer (s : State) (v : Act) : (s.setAct v).keyAnswer = s.keyAnswer := rfl
@[simp] theorem State.setAct_waitExpired (s : State) (v : Act) : (s.setAct v).waitExpired = s.waitExpired := rfl
@[simp] theorem State.setAct_waitLeft (s : State) (v : Act) : (s.setAct v).waitLeft = s.waitLeft := rfl
@[simp] theorem State.setAct_keysAccepted (s : State) (v : Act) : (s.setAct v).keysAccepted = s.keysAccepted := rfl
@[simp] theorem State.setAct_rendered (s : State) (v : Act) : (s.setAct v).rendered = s.rendered := rfl
@[simp] theorem State.setAct_sent (s : State) (v : Act) : (s.setAct v).sent = s.sent := rfl
@[simp] theorem State.setAct_result (s : State) (v : Act) : (s.setAct v).result = s.result := rfl
@[simp] theorem State.setAct_stimulus (s : State) (v : Act) : (s.setAct v).stimulus = s.stimulus := rfl
@[simp] theorem State.setAct_tick (s : State) (v : Act) : (s.setAct v).tick = s.tick := rfl

@[simp] theorem State.setCtrl_act (s : State) (v : CtrlState) : (s.setCtrl v).act = s.act := rfl
@[simp] theorem State.setCtrl_ctrl (s : State) (v : CtrlState) : (s.setCtrl v).ctrl = v := rfl
@[simp] theorem State.setCtrl_lastKey (s : State) (v : CtrlState) : (s.setCtrl v).lastKey = s.lastKey := rfl
@[simp] theorem State.setCtrl_queue (s : State) (v : CtrlState) : (s.setCtrl v).queue = s.queue := rfl
@[simp] theorem State.setCtrl_link (s : State) (v : CtrlState) : (s.setCtrl v).link = s.link := rfl
@[simp] theorem State.setCtrl_active (s : State) (v : CtrlState) : (s.setCtrl v).active = s.active := rfl
@[simp] theorem State.setCtrl_encoded (s : State) (v : CtrlState) : (s.setCtrl v).encoded = s.encoded := rfl
@[simp] theorem State.setCtrl_joinPending (s : State) (v : CtrlState) : (s.setCtrl v).joinPending = s.joinPending := rfl
@[simp] theorem State.setCtrl_joinInProgress (s : State) (v : CtrlState) : (s.setCtrl v).joinInProgress = s.joinInProgress := rfl
@[simp] theorem State.setCtrl_senderAddr (s : State) (v : CtrlState) : (s.setCtrl v).senderAddr = s.senderAddr := rfl
@[simp] theorem State.setCtrl_keyAnswer (s : State) (v : CtrlState) : (s.setCtrl v).keyAnswer = s.keyAnswer := rfl
@[simp] theorem State.setCtrl_waitExpired (s : State) (v : CtrlState) : (s.setCtrl v).waitExpired = s.waitExpired := rfl
@[simp] theorem State.setCtrl_waitLeft (s : State) (v : CtrlState) : (s.setCtrl v).waitLeft = s.waitLeft := rfl
@[simp] theorem State.setCtrl_keysAccepted (s : State) (v : CtrlState) : (s.setCtrl v).keysAccepted = s.keysAccepted := rfl
@[simp] theorem State.setCtrl_rendered (s : State) (v : CtrlState) : (s.setCtrl v).rendered = s.rendered := rfl
@[simp] theorem State.setCtrl_sent (s : State) (v : CtrlState) : (s.setCtrl v).sent = s.sent := rfl
@[simp] theorem State.setCtrl_result (s : State) (v : CtrlState) : (s.setCtrl v).result = s.result := rfl
@[simp] theorem State.setCtrl_stimulus (s : State) (v : CtrlState) : (s.setCtrl v).stimulus = s.stimulus := rfl
@[simp] theorem State.setCtrl_tick (s : State) (v : CtrlState) : (s.setCtrl v).tick = s.tick := rfl

@[simp] theorem State.setLastKey_act (s : State) (v : Key) : (s.setLastKey v).act = s.act := rfl
@[simp] theorem State.setLastKey_ctrl (s : State) (v : Key) : (s.setLastKey v).ctrl = s.ctrl := rfl
@[simp] theorem State.setLastKey_lastKey (s : State) (v : Key) : (s.setLastKey v).lastKey = v := rfl
@[simp] theorem State.setLastKey_queue (s : State) (v : Key) : (s.setLastKey v).queue = s.queue := rfl
@[simp] theorem State.setLastKey_link (s : State) (v : Key) : (s.setLastKey v).link = s.link := rfl
@[simp] theorem State.setLastKey_active (s : State) (v : Key) : (s.setLastKey v).active = s.active := rfl
@[simp] theorem State.setLastKey_encoded (s : State) (v : Key) : (s.setLastKey v).encoded = s.encoded := rfl
@[simp] theorem State.setLastKey_joinPending (s : State) (v : Key) : (s.setLastKey v).joinPending = s.joinPending := rfl
@[simp] theorem State.setLastKey_joinInProgress (s : State) (v : Key) : (s.setLastKey v).joinInProgress = s.joinInProgress := rfl
@[simp] theorem State.setLastKey_senderAddr (s : State) (v : Key) : (s.setLastKey v).senderAddr = s.senderAddr := rfl
@[simp] theorem State.setLastKey_keyAnswer (s : State) (v : Key) : (s.setLastKey v).keyAnswer = s.keyAnswer := rfl
@[simp] theorem State.setLastKey_waitExpired (s : State) (v : Key) : (s.setLastKey v).waitExpired = s.waitExpired := rfl
@[simp] theorem State.setLastKey_waitLeft (s : State) (v : Key) : (s.setLastKey v).waitLeft = s.waitLeft := rfl
@[simp] theorem State.setLastKey_keysAccepted (s : State) (v : Key) : (s.setLastKey v).keysAccepted = s.keysAccepted := rfl
@[simp] theorem State.setLastKey_rendered (s : State) (v : Key) : (s.setLastKey v).rendered = s.rendered := rfl
@[simp] theorem State.setLastKey_sent (s : State) (v : Key) : (s.setLastKey v).sent = s.sent := rfl
@[simp] theorem State.setLastKey_result (s : State) (v : Key) : (s.setLastKey v).result = s.result := rfl
@[simp] theorem State.setLastKey_stimulus (s : State) (v : Key) : (s.setLastKey v).stimulus = s.stimulus := rfl
@[simp] theorem State.setLastKey_tick (s : State) (v : Key) : (s.setLastKey v).tick = s.tick := rfl

@[simp] theorem State.setQueue_act (s : State) (v : List Frame) : (s.setQueue v).act = s.act := rfl
@[simp] theorem State.setQueue_ctrl (s : State) (v : List Frame) : (s.setQueue v).ctrl = s.ctrl := rfl
@[simp] theorem State.setQueue_lastKey (s : State) (v : List Frame) : (s.setQueue v).lastKey = s.lastKey := rfl
@[simp] theorem State.setQueue_queue (s : State) (v : List Frame) : (s.setQueue v).queue = v := rfl
@[simp] theorem State.setQueue_link (s : State) (v : List Frame) : (s.setQueue v).link = s.link := rfl
@[simp] theorem State.setQueue_active (s : State) (v : List Frame) : (s.setQueue v).active = s.active := rfl
@[simp] theorem State.setQueue_encoded (s : State) (v : List Frame) : (s.setQueue v).encoded = s.encoded := rfl
@[simp] theorem State.setQueue_joinPending (s : State) (v : List Frame) : (s.setQueue v).joinPending = s.joinPending := rfl
@[simp] theorem State.setQueue_joinInProgress (s : State) (v : List Frame) : (s.setQueue v).joinInProgress = s.joinInProgress := rfl
@[simp] theorem State.setQueue_senderAddr (s : State) (v : List Frame) : (s.setQueue v).senderAddr = s.senderAddr := rfl
@[simp] theorem State.setQueue_keyAnswer (s : State) (v : List Frame) : (s.setQueue v).keyAnswer = s.keyAnswer := rfl
@[simp] theorem State.setQueue_waitExpired (s : State) (v : List Frame) : (s.setQueue v).waitExpired = s.waitExpired := rfl
@[simp] theorem State.setQueue_waitLeft (s : State) (v : List Frame) : (s.setQueue v).waitLeft = s.waitLeft := rfl
@[simp] theorem State.setQueue_keysAccepted (s : State) (v : List Frame) : (s.setQueue v).keysAccepted = s.keysAccepted := rfl
@[simp] theorem State.setQueue_rendered (s : State) (v : List Frame) : (s.setQueue v).rendered = s.rendered := rfl
@[simp] theorem State.setQueue_sent (s : State) (v : List Frame) : (s.setQueue v).sent = s.sent := rfl
@[simp] theorem State.setQueue_result (s : State) (v : List Frame) : (s.setQueue v).result = s.result := rfl
@[simp] theorem State.setQueue_stimulus (s : State) (v : List Frame) : (s.setQueue v).stimulus = s.stimulus := rfl
@[simp] theorem State.setQueue_tick (s : State) (v : List Frame) : (s.setQueue v).tick = s.tick := rfl

@[simp] theorem State.setLink_act (s : State) (v : LinkState) : (s.setLink v).act = s.act := rfl
@[simp] theorem State.setLink_ctrl (s : State) (v : LinkState) : (s.setLink v).ctrl = s.ctrl := rfl
@[simp] theorem State.setLink_lastKey (s : State) (v : LinkState) : (s.setLink v).lastKey = s.lastKey := rfl
@[simp] theorem State.setLink_queue (s : State) (v : LinkState) : (s.setLink v).queue = s.queue := rfl
@[simp] theorem State.setLink_link (s : State) (v : LinkState) : (s.setLink v).link = v := rfl
@[simp] theorem State.setLink_active (s : State) (v : LinkState) : (s.setLink v).active = s.active := rfl
@[simp] theorem State.setLink_encoded (s : State) (v : LinkState) : (s.setLink v).encoded = s.encoded := rfl
@[simp] theorem State.setLink_joinPending (s : State) (v : LinkState) : (s.setLink v).joinPending = s.joinPending := rfl
@[simp] theorem State.setLink_joinInProgress (s : State) (v : LinkState) : (s.setLink v).joinInProgress = s.joinInProgress := rfl
@[simp] theorem State.setLink_senderAddr (s : State) (v : LinkState) : (s.setLink v).senderAddr = s.senderAddr := rfl
@[simp] theorem State.setLink_keyAnswer (s : State) (v : LinkState) : (s.setLink v).keyAnswer = s.keyAnswer := rfl
@[simp] theorem State.setLink_waitExpired (s : State) (v : LinkState) : (s.setLink v).waitExpired = s.waitExpired := rfl
@[simp] theorem State.setLink_waitLeft (s : State) (v : LinkState) : (s.setLink v).waitLeft = s.waitLeft := rfl
@[simp] theorem State.setLink_keysAccepted (s : State) (v : LinkState) : (s.setLink v).keysAccepted = s.keysAccepted := rfl
@[simp] theorem State.setLink_rendered (s : State) (v : LinkState) : (s.setLink v).rendered = s.rendered := rfl
@[simp] theorem State.setLink_sent (s : State) (v : LinkState) : (s.setLink v).sent = s.sent := rfl
@[simp] theorem State.setLink_result (s : State) (v : LinkState) : (s.setLink v).result = s.result := rfl
@[simp] theorem State.setLink_stimulus (s : State) (v : LinkState) : (s.setLink v).stimulus = s.stimulus := rfl
@[simp] theorem State.setLink_tick (s : State) (v : LinkState) : (s.setLink v).tick = s.tick := rfl

@[simp] theorem State.setActive_act (s : State) (v : Memory) : (s.setActive v).act = s.act := rfl
@[simp] theorem State.setActive_ctrl (s : State) (v : Memory) : (s.setActive v).ctrl = s.ctrl := rfl
@[simp] theorem State.setActive_lastKey (s : State) (v : Memory) : (s.setActive v).lastKey = s.lastKey := rfl
@[simp] theorem State.setActive_queue (s : State) (v : Memory) : (s.setActive v).queue = s.queue := rfl
@[simp] theorem State.setActive_link (s : State) (v : Memory) : (s.setActive v).link = s.link := rfl
@[simp] theorem State.setActive_active (s : State) (v : Memory) : (s.setActive v).active = v := rfl
@[simp] theorem State.setActive_encoded (s : State) (v : Memory) : (s.setActive v).encoded = s.encoded := rfl
@[simp] theorem State.setActive_joinPending (s : State) (v : Memory) : (s.setActive v).joinPending = s.joinPending := rfl
@[simp] theorem State.setActive_joinInProgress (s : State) (v : Memory) : (s.setActive v).joinInProgress = s.joinInProgress := rfl
@[simp] theorem State.setActive_senderAddr (s : State) (v : Memory) : (s.setActive v).senderAddr = s.senderAddr := rfl
@[simp] theorem State.setActive_keyAnswer (s : State) (v : Memory) : (s.setActive v).keyAnswer = s.keyAnswer := rfl
@[simp] theorem State.setActive_waitExpired (s : State) (v : Memory) : (s.setActive v).waitExpired = s.waitExpired := rfl
@[simp] theorem State.setActive_waitLeft (s : State) (v : Memory) : (s.setActive v).waitLeft = s.waitLeft := rfl
@[simp] theorem State.setActive_keysAccepted (s : State) (v : Memory) : (s.setActive v).keysAccepted = s.keysAccepted := rfl
@[simp] theorem State.setActive_rendered (s : State) (v : Memory) : (s.setActive v).rendered = s.rendered := rfl
@[simp] theorem State.setActive_sent (s : State) (v : Memory) : (s.setActive v).sent = s.sent := rfl
@[simp] theorem State.setActive_result (s : State) (v : Memory) : (s.setActive v).result = s.result := rfl
@[simp] theorem State.setActive_stimulus (s : State) (v : Memory) : (s.setActive v).stimulus = s.stimulus := rfl
@[simp] theorem State.setActive_tick (s : State) (v : Memory) : (s.setActive v).tick = s.tick := rfl

@[simp] theorem State.setEncoded_act (s : State) (v : Memory) : (s.setEncoded v).act = s.act := rfl
@[simp] theorem State.setEncoded_ctrl (s : State) (v : Memory) : (s.setEncoded v).ctrl = s.ctrl := rfl
@[simp] theorem State.setEncoded_lastKey (s : State) (v : Memory) : (s.setEncoded v).lastKey = s.lastKey := rfl
@[simp] theorem State.setEncoded_queue (s : State) (v : Memory) : (s.setEncoded v).queue = s.queue := rfl
@[simp] theorem State.setEncoded_link (s : State) (v : Memory) : (s.setEncoded v).link = s.link := rfl
@[simp] theorem State.setEncoded_active (s : State) (v : Memory) : (s.setEncoded v).active = s.active := rfl
@[simp] theorem State.setEncoded_encoded (s : State) (v : Memory) : (s.setEncoded v).encoded = v := rfl
@[simp] theorem State.setEncoded_joinPending (s : State) (v : Memory) : (s.setEncoded v).joinPending = s.joinPending := rfl
@[simp] theorem State.setEncoded_joinInProgress (s : State) (v : Memory) : (s.setEncoded v).joinInProgress = s.joinInProgress := rfl
@[simp] theorem State.setEncoded_senderAddr (s : State) (v : Memory) : (s.setEncoded v).senderAddr = s.senderAddr := rfl
@[simp] theorem State.setEncoded_keyAnswer (s : State) (v : Memory) : (s.setEncoded v).keyAnswer = s.keyAnswer := rfl
@[simp] theorem State.setEncoded_waitExpired (s : State) (v : Memory) : (s.setEncoded v).waitExpired = s.waitExpired := rfl
@[simp] theorem State.setEncoded_waitLeft (s : State) (v : Memory) : (s.setEncoded v).waitLeft = s.waitLeft := rfl
@[simp] theorem State.setEncoded_keysAccepted (s : State) (v : Memory) : (s.setEncoded v).keysAccepted = s.keysAccepted := rfl
@[simp] theorem State.setEncoded_rendered (s : State) (v : Memory) : (s.setEncoded v).rendered = s.rendered := rfl
@[simp] theorem State.setEncoded_sent (s : State) (v : Memory) : (s.setEncoded v).sent = s.sent := rfl
@[simp] theorem State.setEncoded_result (s : State) (v : Memory) : (s.setEncoded v).result = s.result := rfl
@[simp] theorem State.setEncoded_stimulus (s : State) (v : Memory) : (s.setEncoded v).stimulus = s.stimulus := rfl
@[simp] theorem State.setEncoded_tick (s : State) (v : Memory) : (s.setEncoded v).tick = s.tick := rfl

@[simp] theorem State.setJoinPending_act (s : State) (v : Bool) : (s.setJoinPending v).act = s.act := rfl
@[simp] theorem State.setJoinPending_ctrl (s : State) (v : Bool) : (s.setJoinPending v).ctrl = s.ctrl := rfl
@[simp] theorem State.setJoinPending_lastKey (s : State) (v : Bool) : (s.setJoinPending v).lastKey = s.lastKey := rfl
@[simp] theorem State.setJoinPending_queue (s : State) (v : Bool) : (s.setJoinPending v).queue = s.queue := rfl
@[simp] theorem State.setJoinPending_link (s : State) (v : Bool) : (s.setJoinPending v).link = s.link := rfl
@[simp] theorem State.setJoinPending_active (s : State) (v : Bool) : (s.setJoinPending v).active = s.active := rfl
@[simp] theorem State.setJoinPending_encoded (s : State) (v : Bool) : (s.setJoinPending v).encoded = s.encoded := rfl
@[simp] theorem State.setJoinPending_joinPending (s : State) (v : Bool) : (s.setJoinPending v).joinPending = v := rfl
@[simp] theorem State.setJoinPending_joinInProgress (s : State) (v : Bool) : (s.setJoinPending v).joinInProgress = s.joinInProgress := rfl
@[simp] theorem State.setJoinPending_senderAddr (s : State) (v : Bool) : (s.setJoinPending v).senderAddr = s.senderAddr := rfl
@[simp] theorem State.setJoinPending_keyAnswer (s : State) (v : Bool) : (s.setJoinPending v).keyAnswer = s.keyAnswer := rfl
@[simp] theorem State.setJoinPending_waitExpired (s : State) (v : Bool) : (s.setJoinPending v).waitExpired = s.waitExpired := rfl
@[simp] theorem State.setJoinPending_waitLeft (s : State) (v : Bool) : (s.setJoinPending v).waitLeft = s.waitLeft := rfl
@[simp] theorem State.setJoinPending_keysAccepted (s : State) (v : Bool) : (s.setJoinPending v).keysAccepted = s.keysAccepted := rfl
@[simp] theorem State.setJoinPending_rendered (s : State) (v : Bool) : (s.setJoinPending v).rendered = s.rendered := rfl
@[simp] theorem State.setJoinPending_sent (s : State) (v : Bool) : (s.setJoinPending v).sent = s.sent := rfl
@[simp] theorem State.setJoinPending_result (s : State) (v : Bool) : (s.setJoinPending v).result = s.result := rfl
@[simp] theorem State.setJoinPending_stimulus (s : State) (v : Bool) : (s.setJoinPending v).stimulus = s.stimulus := rfl
@[simp] theorem State.setJoinPending_tick (s : State) (v : Bool) : (s.setJoinPending v).tick = s.tick := rfl

@[simp] theorem State.setJoinInProgress_act (s : State) (v : Bool) : (s.setJoinInProgress v).act = s.act := rfl
@[simp] theorem State.setJoinInProgress_ctrl (s : State) (v : Bool) : (s.setJoinInProgress v).ctrl = s.ctrl := rfl
@[simp] theorem State.setJoinInProgress_lastKey (s : State) (v : Bool) : (s.setJoinInProgress v).lastKey = s.lastKey := rfl
@[simp] theorem State.setJoinInProgress_queue (s : State) (v : Bool) : (s.setJoinInProgress v).queue = s.queue := rfl
@[simp] theorem State.setJoinInProgress_link (s : State) (v : Bool) : (s.setJoinInProgress v).link = s.link := rfl
@[simp] theorem State.setJoinInProgress_active (s : State) (v : Bool) : (s.setJoinInProgress v).active = s.active := rfl
@[simp] theorem State.setJoinInProgress_encoded (s : State) (v : Bool) : (s.setJoinInProgress v).encoded = s.encoded := rfl
@[simp] theorem State.setJoinInProgress_joinPending (s : State) (v : Bool) : (s.setJoinInProgress v).joinPending = s.joinPending := rfl
@[simp] theorem State.setJoinInProgress_joinInProgress (s : State) (v : Bool) : (s.setJoinInProgress v).joinInProgress = v := rfl
@[simp] theorem State.setJoinInProgress_senderAddr (s : State) (v : Bool) : (s.setJoinInProgress v).senderAddr = s.senderAddr := rfl
@[simp] theorem State.setJoinInProgress_keyAnswer (s : State) (v : Bool) : (s.setJoinInProgress v).keyAnswer = s.keyAnswer := rfl
@[simp] theorem State.setJoinInProgress_waitExpired (s : State) (v : Bool) : (s.setJoinInProgress v).waitExpired = s.waitExpired := rfl
@[simp] theorem State.setJoinInProgress_waitLeft (s : State) (v : Bool) : (s.setJoinInProgress v).waitLeft = s.waitLeft := rfl
@[simp] theorem State.setJoinInProgress_keysAccepted (s : State) (v : Bool) : (s.setJoinInProgress v).keysAccepted = s.keysAccepted := rfl
@[simp] theorem State.setJoinInProgress_rendered (s : State) (v : Bool) : (s.setJoinInProgress v).rendered = s.rendered := rfl
@[simp] theorem State.setJoinInProgress_sent (s : State) (v : Bool) : (s.setJoinInProgress v).sent = s.sent := rfl
@[simp] theorem State.setJoinInProgress_result (s : State) (v : Bool) : (s.setJoinInProgress v).result = s.result := rfl
@[simp] theorem State.setJoinInProgress_stimulus (s : State) (v : Bool) : (s.setJoinInProgress v).stimulus = s.stimulus := rfl
@[simp] theorem State.setJoinInProgress_tick (s : State) (v : Bool) : (s.setJoinInProgress v).tick = s.tick := rfl

@[simp] theorem State.setKeyAnswer_act (s : State) (v : Option Key) : (s.setKeyAnswer v).act = s.act := rfl
@[simp] theorem State.setKeyAnswer_ctrl (s : State) (v : Option Key) : (s.setKeyAnswer v).ctrl = s.ctrl := rfl
@[simp] theorem State.setKeyAnswer_lastKey (s : State) (v : Option Key) : (s.setKeyAnswer v).lastKey = s.lastKey := rfl
@[simp] theorem State.setKeyAnswer_queue (s : State) (v : Option Key) : (s.setKeyAnswer v).queue = s.queue := rfl
@[simp] theorem State.setKeyAnswer_link (s : State) (v : Option Key) : (s.setKeyAnswer v).link = s.link := rfl
@[simp] theorem State.setKeyAnswer_active (s : State) (v : Option Key) : (s.setKeyAnswer v).active = s.active := rfl
@[simp] theorem State.setKeyAnswer_encoded (s : State) (v : Option Key) : (s.setKeyAnswer v).encoded = s.encoded := rfl
@[simp] theorem State.setKeyAnswer_joinPending (s : State) (v : Option Key) : (s.setKeyAnswer v).joinPending = s.joinPending := rfl
@[simp] theorem State.setKeyAnswer_joinInProgress (s : State) (v : Option Key) : (s.setKeyAnswer v).joinInProgress = s.joinInProgress := rfl
@[simp] theorem State.setKeyAnswer_senderAddr (s : State) (v : Option Key) : (s.setKeyAnswer v).senderAddr = s.senderAddr := rfl
@[simp] theorem State.setKeyAnswer_keyAnswer (s : State) (v : Option Key) : (s.setKeyAnswer v).keyAnswer = v := rfl
@[simp] theorem State.setKeyAnswer_waitExpired (s : State) (v : Option Key) : (s.setKeyAnswer v).waitExpired = s.waitExpired := rfl
@[simp] theorem State.setKeyAnswer_waitLeft (s : State) (v : Option Key) : (s.setKeyAnswer v).waitLeft = s.waitLeft := rfl
@[simp] theorem State.setKeyAnswer_keysAccepted (s : State) (v : Option Key) : (s.setKeyAnswer v).keysAccepted = s.keysAccepted := rfl
@[simp] theorem State.setKeyAnswer_rendered (s : State) (v : Option Key) : (s.setKeyAnswer v).rendered = s.rendered := rfl
@[simp] theorem State.setKeyAnswer_sent (s : State) (v : Option Key) : (s.setKeyAnswer v).sent = s.sent := rfl
@[simp] theorem State.setKeyAnswer_result (s : State) (v : Option Key) : (s.setKeyAnswer v).result = s.result := rfl
@[simp] theorem State.setKeyAnswer_stimulus (s : State) (v : Option Key) : (s.setKeyAnswer v).stimulus = s.stimulus := rfl
@[simp] theorem State.setKeyAnswer_tick (s : State) (v : Option Key) : (s.setKeyAnswer v).tick = s.tick := rfl

@[simp] theorem State.setWaitExpired_act (s : State) (v : Bool) : (s.setWaitExpired v).act = s.act := rfl
@[simp] theorem State.setWaitExpired_ctrl (s : State) (v : Bool) : (s.setWaitExpired v).ctrl = s.ctrl := rfl
@[simp] theorem State.setWaitExpired_lastKey (s : State) (v : Bool) : (s.setWaitExpired v).lastKey = s.lastKey := rfl
@[simp] theorem State.setWaitExpired_queue (s : State) (v : Bool) : (s.setWaitExpired v).queue = s.queue := rfl
@[simp] theorem State.setWaitExpired_link (s : State) (v : Bool) : (s.setWaitExpired v).link = s.link := rfl
@[simp] theorem State.setWaitExpired_active (s : State) (v : Bool) : (s.setWaitExpired v).active = s.active := rfl
@[simp] theorem State.setWaitExpired_encoded (s : State) (v : Bool) : (s.setWaitExpired v).encoded = s.encoded := rfl
@[simp] theorem State.setWaitExpired_joinPending (s : State) (v : Bool) : (s.setWaitExpired v).joinPending = s.joinPending := rfl
@[simp] theorem State.setWaitExpired_joinInProgress (s : State) (v : Bool) : (s.setWaitExpired v).joinInProgress = s.joinInProgress := rfl
@[simp] theorem State.setWaitExpired_senderAddr (s : State) (v : Bool) : (s.setWaitExpired v).senderAddr = s.senderAddr := rfl
@[simp] theorem State.setWaitExpired_keyAnswer (s : State) (v : Bool) : (s.setWaitExpired v).keyAnswer = s.keyAnswer := rfl
@[simp] theorem State.setWaitExpired_waitExpired (s : State) (v : Bool) : (s.setWaitExpired v).waitExpired = v := rfl
@[simp] theorem State.setWaitExpired_waitLeft (s : State) (v : Bool) : (s.setWaitExpired v).waitLeft = s.waitLeft := rfl
@[simp] theorem State.setWaitExpired_keysAccepted (s : State) (v : Bool) : (s.setWaitExpired v).keysAccepted = s.keysAccepted := rfl
@[simp] theorem State.setWaitExpired_rendered (s : State) (v : Bool) : (s.setWaitExpired v).rendered = s.rendered := rfl
@[simp] theorem State.setWaitExpired_sent (s : State) (v : Bool) : (s.setWaitExpired v).sent = s.sent := rfl
@[simp] theorem State.setWaitExpired_result (s : State) (v : Bool) : (s.setWaitExpired v).result = s.result := rfl
@[simp] theorem State.setWaitExpired_stimulus (s : State) (v : Bool) : (s.setWaitExpired v).stimulus = s.stimulus := rfl
@[simp] theorem State.setWaitExpired_tick (s : State) (v : Bool) : (s.setWaitExpired v).tick = s.tick := rfl

@[simp] theorem State.setWaitLeft_act (s : State) (v : Nat) : (s.setWaitLeft v).act = s.act := rfl
@[simp] theorem State.setWaitLeft_ctrl (s : State) (v : Nat) : (s.setWaitLeft v).ctrl = s.ctrl := rfl
@[simp] theorem State.setWaitLeft_lastKey (s : State) (v : Nat) : (s.setWaitLeft v).lastKey = s.lastKey := rfl
@[simp] theorem State.setWaitLeft_queue (s : State) (v : Nat) : (s.setWaitLeft v).queue = s.queue := rfl
@[simp] theorem State.setWaitLeft_link (s : State) (v : Nat) : (s.setWaitLeft v).link = s.link := rfl
@[simp] theorem State.setWaitLeft_active (s : State) (v : Nat) : (s.setWaitLeft v).active = s.active := rfl
@[simp] theorem State.setWaitLeft_encoded (s : State) (v : Nat) : (s.setWaitLeft v).encoded = s.encoded := rfl
@[simp] theorem State.setWaitLeft_joinPending (s : State) (v : Nat) : (s.setWaitLeft v).joinPending = s.joinPending := rfl
@[simp] theorem State.setWaitLeft_joinInProgress (s : State) (v : Nat) : (s.setWaitLeft v).joinInProgress = s.joinInProgress := rfl
@[simp] theorem State.setWaitLeft_senderAddr (s : State) (v : Nat) : (s.setWaitLeft v).senderAddr = s.senderAddr := rfl
@[simp] theorem State.setWaitLeft_keyAnswer (s : State) (v : Nat) : (s.setWaitLeft v).keyAnswer = s.keyAnswer := rfl
@[simp] theorem State.setWaitLeft_waitExpired (s : State) (v : Nat) : (s.setWaitLeft v).waitExpired = s.waitExpired := rfl
@[simp] theorem State.setWaitLeft_waitLeft (s : State) (v : Nat) : (s.setWaitLeft v).waitLeft = v := rfl
@[simp] theorem State.setWaitLeft_keysAccepted (s : State) (v : Nat) : (s.setWaitLeft v).keysAccepted = s.keysAccepted := rfl
@[simp] theorem State.setWaitLeft_rendered (s : State) (v : Nat) : (s.setWaitLeft v).rendered = s.rendered := rfl
@[simp] theorem State.setWaitLeft_sent (s : State) (v : Nat) : (s.setWaitLeft v).sent = s.sent := rfl
@[simp] theorem State.setWaitLeft_result (s : State) (v : Nat) : (s.setWaitLeft v).result = s.result := rfl
@[simp] theorem State.setWaitLeft_stimulus (s : State) (v : Nat) : (s.setWaitLeft v).stimulus = s.stimulus := rfl
@[simp] theorem State.setWaitLeft_tick (s : State) (v : Nat) : (s.setWaitLeft v).tick = s.tick := rfl

@[simp] theorem State.setKeysAccepted_act (s : State) (v : Nat) : (s.setKeysAccepted v).act = s.act := rfl
@[simp] theorem State.setKeysAccepted_ctrl (s : State) (v : Nat) : (s.setKeysAccepted v).ctrl = s.ctrl := rfl
@[simp] theorem State.setKeysAccepted_lastKey (s : State) (v : Nat) : (s.setKeysAccepted v).lastKey = s.lastKey := rfl
@[simp] theorem State.setKeysAccepted_queue (s : State) (v : Nat) : (s.setKeysAccepted v).queue = s.queue := rfl
@[simp] theorem State.setKeysAccepted_link (s : State) (v : Nat) : (s.setKeysAccepted v).link = s.link := rfl
@[simp] theorem State.setKeysAccepted_active (s : State) (v : Nat) : (s.setKeysAccepted v).active = s.active := rfl
@[simp] theorem State.setKeysAccepted_encoded (s : State) (v : Nat) : (s.setKeysAccepted v).encoded = s.encoded := rfl
@[simp] theorem State.setKeysAccepted_joinPending (s : State) (v : Nat) : (s.setKeysAccepted v).joinPending = s.joinPending := rfl
@[simp] theorem State.setKeysAccepted_joinInProgress (s : State) (v : Nat) : (s.setKeysAccepted v).joinInProgress = s.joinInProgress := rfl
@[simp] theorem State.setKeysAccepted_senderAddr (s : State) (v : Nat) : (s.setKeysAccepted v).senderAddr = s.senderAddr := rfl
@[simp] theorem State.setKeysAccepted_keyAnswer (s : State) (v : Nat) : (s.setKeysAccepted v).keyAnswer = s.keyAnswer := rfl
@[simp] theorem State.setKeysAccepted_waitExpired (s : State) (v : Nat) : (s.setKeysAccepted v).waitExpired = s.waitExpired := rfl
@[simp] theorem State.setKeysAccepted_waitLeft (s : State) (v : Nat) : (s.setKeysAccepted v).waitLeft = s.waitLeft := rfl
@[simp] theorem State.setKeysAccepted_keysAccepted (s : State) (v : Nat) : (s.setKeysAccepted v).keysAccepted = v := rfl
@[simp] theorem State.setKeysAccepted_rendered (s : State) (v : Nat) : (s.setKeysAccepted v).rendered = s.rendered := rfl
@[simp] theorem State.setKeysAccepted_sent (s : State) (v : Nat) : (s.setKeysAccepted v).sent = s.sent := rfl
@[simp] theorem State.setKeysAccepted_result (s : State) (v : Nat) : (s.setKeysAccepted v).result = s.result := rfl
@[simp] theorem State.setKeysAccepted_stimulus (s : State) (v : Nat) : (s.setKeysAccepted v).stimulus = s.stimulus := rfl
@[simp] theorem State.setKeysAccepted_tick (s : State) (v : Nat) : (s.setKeysAccepted v).tick = s.tick := rfl

@[simp] theorem State.setRendered_act (s : State) (v : List DisplayCommand) : (s.setRendered v).act = s.act := rfl
@[simp] theorem State.setRendered_ctrl (s : State) (v : List DisplayCommand) : (s.setRendered v).ctrl = s.ctrl := rfl
@[simp] theorem State.setRendered_lastKey (s : State) (v : List DisplayCommand) : (s.setRendered v).lastKey = s.lastKey := rfl
@[simp] theorem State.setRendered_queue (s : State) (v : List DisplayCommand) : (s.setRendered v).queue = s.queue := rfl
@[simp] theorem State.setRendered_link (s : State) (v : List DisplayCommand) : (s.setRendered v).link = s.link := rfl
@[simp] theorem State.setRendered_active (s : State) (v : List DisplayCommand) : (s.setRendered v).active = s.active := rfl
@[simp] theorem State.setRendered_encoded (s : State) (v : List DisplayCommand) : (s.setRendered v).encoded = s.encoded := rfl
@[simp] theorem State.setRendered_joinPending (s : State) (v : List DisplayCommand) : (s.setRendered v).joinPending = s.joinPending := rfl
@[simp] theorem State.setRendered_joinInProgress (s : State) (v : List DisplayCommand) : (s.setRendered v).joinInProgress = s.joinInProgress := rfl
@[simp] theorem State.setRendered_senderAddr (s : State) (v : List DisplayCommand) : (s.setRendered v).senderAddr = s.senderAddr := rfl
@[simp] theorem State.setRendered_keyAnswer (s : State) (v : List DisplayCommand) : (s.setRendered v).keyAnswer = s.keyAnswer := rfl
@[simp] theorem State.setRendered_waitExpired (s : State) (v : List DisplayCommand) : (s.setRendered v).waitExpired = s.waitExpired := rfl
@[simp] theorem State.setRendered_waitLeft (s : State) (v : List DisplayCommand) : (s.setRendered v).waitLeft = s.waitLeft := rfl
@[simp] theorem State.setRendered_keysAccepted (s : State) (v : List DisplayCommand) : (s.setRendered v).keysAccepted = s.keysAccepted := rfl
@[simp] theorem State.setRendered_rendered (s : State) (v : List DisplayCommand) : (s.setRendered v).rendered = v := rfl
@[simp] theorem State.setRendered_sent (s : State) (v : List DisplayCommand) : (s.setRendered v).sent = s.sent := rfl
@[simp] theorem State.setRendered_result (s : State) (v : List DisplayCommand) : (s.setRendered v).result = s.result := rfl
@[simp] theorem State.setRendered_stimulus (s : State) (v : List DisplayCommand) : (s.setRendered v).stimulus = s.stimulus := rfl
@[simp] theorem State.setRendered_tick (s : State) (v : List DisplayCommand) : (s.setRendered v).tick = s.tick := rfl

@[simp] theorem State.setSent_act (s : State) (v : List EncFrame) : (s.setSent v).act = s.act := rfl
@[simp] theorem State.setSent_ctrl (s : State) (v : List EncFrame) : (s.setSent v).ctrl = s.ctrl := rfl
@[simp] theorem State.setSent_lastKey (s : State) (v : List EncFrame) : (s.setSent v).lastKey = s.lastKey := rfl
@[simp] theorem State.setSent_queue (s : State) (v : List EncFrame) : (s.setSent v).queue = s.queue := rfl
@[simp] theorem State.setSent_link (s : State) (v : List EncFrame) : (s.setSent v).link = s.link := rfl
@[simp] theorem State.setSent_active (s : State) (v : List EncFrame) : (s.setSent v).active = s.active := rfl
@[simp] theorem State.setSent_encoded (s : State) (v : List EncFrame) : (s.setSent v).encoded = s.encoded := rfl
@[simp] theorem State.setSent_joinPending (s : State) (v : List EncFrame) : (s.setSent v).joinPending = s.joinPending := rfl
@[simp] theorem State.setSent_joinInProgress (s : State) (v : List EncFrame) : (s.setSent v).joinInProgress = s.joinInProgress := rfl
@[simp] theorem State.setSent_senderAddr (s : State) (v : List EncFrame) : (s.setSent v).senderAddr = s.senderAddr := rfl
@[simp] theorem State.setSent_keyAnswer (s : State) (v : List EncFrame) : (s.setSent v).keyAnswer = s.keyAnswer := rfl
@[simp] theorem State.setSent_waitExpired (s : State) (v : List EncFrame) : (s.setSent v).waitExpired = s.waitExpired := rfl
@[simp] theorem State.setSent_waitLeft (s : State) (v : List EncFrame) : (s.setSent v).waitLeft = s.waitLeft := rfl
@[simp] theorem State.setSent_keysAccepted (s : State) (v : List EncFrame) : (s.setSent v).keysAccepted = s.keysAccepted := rfl
@[simp] theorem State.setSent_rendered (s : State) (v : List EncFrame) : (s.setSent v).rendered = s.rendered := rfl
@[simp] theorem State.setSent_sent (s : State) (v : List EncFrame) : (s.setSent v).sent = v := rfl
@[simp] theorem State.setSent_result (s : State) (v : List EncFrame) : (s.setSent v).result = s.result := rfl
@[simp] theorem State.setSent_stimulus (s : State) (v : List EncFrame) : (s.setSent v).stimulus = s.stimulus := rfl
@[simp] theorem State.setSent_tick (s : State) (v : List EncFrame) : (s.setSent v).tick = s.tick := rfl

@[simp] theorem State.setResult_act (s : State) (v : OpResult) : (s.setResult v).act = s.act := rfl
@[simp] theorem State.setResult_ctrl (s : State) (v : OpResult) : (s.setResult v).ctrl = s.ctrl := rfl
@[simp] theorem State.setResult_lastKey (s : State) (v : OpResult) : (s.setResult v).lastKey = s.lastKey := rfl
@[simp] theorem State.setResult_queue (s : State) (v : OpResult) : (s.setResult v).queue = s.queue := rfl
@[simp] theorem State.setResult_link (s : State) (v : OpResult) : (s.setResult v).link = s.link := rfl
@[simp] theorem State.setResult_active (s : State) (v : OpResult) : (s.setResult v).active = s.active := rfl
@[simp] theorem State.setResult_encoded (s : State) (v : OpResult) : (s.setResult v).encoded = s.encoded := rfl
@[simp] theorem State.setResult_joinPending (s : State) (v : OpResult) : (s.setResult v).joinPending = s.joinPending := rfl
@[simp] theorem State.setResult_joinInProgress (s : State) (v : OpResult) : (s.setResult v).joinInProgress = s.joinInProgress := rfl
@[simp] theorem State.setResult_senderAddr (s : State) (v : OpResult) : (s.setResult v).senderAddr = s.senderAddr := rfl
@[simp] theorem State.setResult_keyAnswer (s : State) (v : OpResult) : (s.setResult v).keyAnswer = s.keyAnswer := rfl
@[simp] theorem State.setResult_waitExpired (s : State) (v : OpResult) : (s.setResult v).waitExpired = s.waitExpired := rfl
@[simp] theorem State.setResult_waitLeft (s : State) (v : OpResult) : (s.setResult v).waitLeft = s.waitLeft := rfl
@[simp] theorem State.setResult_keysAccepted (s : State) (v : OpResult) : (s.setResult v).keysAccepted = s.keysAccepted := rfl
@[simp] theorem State.setResult_rendered (s : State) (v : OpResult) : (s.setResult v).rendered = s.rendered := rfl
@[simp] theorem State.setResult_sent (s : State) (v : OpResult) : (s.setResult v).sent = s.sent := rfl
@[simp] theorem State.setResult_result (s : State) (v : OpResult) : (s.setResult v).result = v := rfl
@[simp] theorem State.setResult_stimulus (s : State) (v : OpResult) : (s.setResult v).stimulus = s.stimulus := rfl
@[simp] theorem State.setResult_tick (s : State) (v : OpResult) : (s.setResult v).tick = s.tick := rfl

@[simp] theorem State.setStimulus_act (s : State) (v : List Stimulus) : (s.setStimulus v).act = s.act := rfl
@[simp] theorem State.setStimulus_ctrl (s : State) (v : List Stimulus) : (s.setStimulus v).ctrl = s.ctrl := rfl
@[simp] theorem State.setStimulus_lastKey (s : State) (v : List Stimulus) : (s.setStimulus v).lastKey = s.lastKey := rfl
@[simp] theorem State.setStimulus_queue (s : State) (v : List Stimulus) : (s.setStimulus v).queue = s.queue := rfl
@[simp] theorem State.setStimulus_link (s : State) (v : List Stimulus) : (s.setStimulus v).link = s.link := rfl
@[simp] theorem State.setStimulus_active (s : State) (v : List Stimulus) : (s.setStimulus v).active = s.active := rfl
@[simp] theorem State.setStimulus_encoded (s : State) (v : List Stimulus) : (s.setStimulus v).encoded = s.encoded := rfl
@[simp] theorem State.setStimulus_joinPending (s : State) (v : List Stimulus) : (s.setStimulus v).joinPending = s.joinPending := rfl
@[simp] theorem State.setStimulus_joinInProgress (s : State) (v : List Stimulus) : (s.setStimulus v).joinInProgress = s.joinInProgress := rfl
@[simp] theorem State.setStimulus_senderAddr (s : State) (v : List Stimulus) : (s.setStimulus v).senderAddr = s.senderAddr := rfl
@[simp] theorem State.setStimulus_keyAnswer (s : State) (v : List Stimulus) : (s.setStimulus v).keyAnswer = s.keyAnswer := rfl
@[simp] theorem State.setStimulus_waitExpired (s : State) (v : List Stimulus) : (s.setStimulus v).waitExpired = s.waitExpired := rfl
@[simp] theorem State.setStimulus_waitLeft (s : State) (v : List Stimulus) : (s.setStimulus v).waitLeft = s.waitLeft := rfl
@[simp] theorem State.setStimulus_keysAccepted (s : State) (v : List Stimulus) : (s.setStimulus v).keysAccepted = s.keysAccepted := rfl
@[simp] theorem State.setStimulus_rendered (s : State) (v : List Stimulus) : (s.setStimulus v).rendered = s.rendered := rfl
@[simp] theorem State.setStimulus_sent (s : State) (v : List Stimulus) : (s.setStimulus v).sent = s.sent := rfl
@[simp] theorem State.setStimulus_result (s : State) (v : List Stimulus) : (s.setStimulus v).result = s.result := rfl
@[simp] theorem State.setStimulus_stimulus (s : State) (v : List Stimulus) : (s.setStimulus v).stimulus = v := rfl
@[simp] theorem State.setStimulus_tick (s : State) (v : List Stimulus) : (s.setStimulus v).tick = s.tick := rfl

@[simp] theorem State.setTick_act (s : State) (v : Nat) : (s.setTick v).act = s.act := rfl
@[simp] theorem State.setTick_ctrl (s : State) (v : Nat) : (s.setTick v).ctrl = s.ctrl := rfl
@[simp] theorem State.setTick_lastKey (s : State) (v : Nat) : (s.setTick v).lastKey = s.lastKey := rfl
@[simp] theorem State.setTick_queue (s : State) (v : Nat) : (s.setTick v).queue = s.queue := rfl
@[simp] theorem State.setTick_link (s : State) (v : Nat) : (s.setTick v).link = s.link := rfl
@[simp] theorem State.setTick_active (s : State) (v : Nat) : (s.setTick v).active = s.active := rfl
@[simp] theorem State.setTick_encoded (s : State) (v : Nat) : (s.setTick v).encoded = s.encoded := rfl
@[simp] theorem State.setTick_joinPending (s : State) (v : Nat) : (s.setTick v).joinPending = s.joinPending := rfl
@[simp] theorem State.setTick_joinInProgress (s : State) (v : Nat) : (s.setTick v).joinInProgress = s.joinInProgress := rfl
@[simp] theorem State.setTick_senderAddr (s : State) (v : Nat) : (s.setTick v).senderAddr = s.senderAddr := rfl
@[simp] theorem State.setTick_keyAnswer (s : State) (v : Nat) : (s.setTick v).keyAnswer = s.keyAnswer := rfl
@[simp] theorem State.setTick_waitExpired (s : State) (v : Nat) : (s.setTick v).waitExpired = s.waitExpired := rfl
@[simp] theorem State.setTick_waitLeft (s : State) (v : Nat) : (s.setTick v).waitLeft = s.waitLeft := rfl
@[simp] theorem State.setTick_keysAccepted (s : State) (v : Nat) : (s.setTick v).keysAccepted = s.keysAccepted := rfl
@[simp] theorem State.setTick_rendered (s : State) (v : Nat) : (s.setTick v).rendered = s.rendered := rfl
@[simp] theorem State.setTick_sent (s : State) (v : Nat) : (s.setTick v).sent = s.sent := rfl
@[simp] theorem State.setTick_result (s : State) (v : Nat) : (s.setTick v).result = s.result := rfl
@[simp] theorem State.setTick_stimulus (s : State) (v : Nat) : (s.setTick v).stimulus = s.stimulus := rfl
@[simp] theorem State.setTick_tick (s : State) (v : Nat) : (s.setTick v).tick = v := rfl

end Sys2Proof.Machine
end

