-- ==== Sys2Proof/Laws/Memory.lean ====
section
/-! SUPPORT. What the memory operations do: a read after a write, the canonical form, whole blocks. -/

namespace Sys2Proof.Machine

open Sys2Proof

theorem Memory.read_write_same (m : Memory) (a : Nat) (v : Byte) :
    Memory.read (Memory.write m a v) a = some v := by
  induction m with
  | nil => simp [Memory.write, Memory.read]
  | cons c m ih =>
    obtain ⟨b, u⟩ := c
    simp only [Memory.write]
    split
    · simp [Memory.read]
    · split
      · simp [Memory.read]
      · simp [Memory.read, *]

theorem Memory.read_write_other (m : Memory) (a b : Nat) (v : Byte) (h : b ≠ a) :
    Memory.read (Memory.write m a v) b = Memory.read m b := by
  induction m with
  | nil => simp [Memory.write, Memory.read, h]
  | cons c m ih =>
    obtain ⟨d, u⟩ := c
    simp only [Memory.write]
    split
    · simp [Memory.read, h]
    · split
      · subst_vars; simp [Memory.read, h]
      · simp [Memory.read, ih]

theorem Memory.read_write (m : Memory) (a b : Nat) (v : Byte) :
    Memory.read (Memory.write m a v) b = if b = a then some v else Memory.read m b := by
  split
  · subst_vars; exact Memory.read_write_same ..
  · exact Memory.read_write_other _ _ _ _ ‹_›

/-- Every address of a write is the one written or one of before. -/
theorem Memory.mem_write {m : Memory} {a : Nat} {v : Byte} {c : Host.Cell} (h : c ∈ Memory.write m a v) :
    c = (a, v) ∨ c ∈ m := by
  induction m with
  | nil => simpa [Memory.write] using h
  | cons d m ih =>
    obtain ⟨b, u⟩ := d
    simp only [Memory.write] at h
    split at h
    · simpa using h
    · split at h
      · rcases List.mem_cons.1 h with h | h
        · exact .inl h
        · exact .inr (List.mem_cons_of_mem _ h)
      · rcases List.mem_cons.1 h with h | h
        · exact .inr (h ▸ List.mem_cons_self)
        · rcases ih h with h | h
          · exact .inl h
          · exact .inr (List.mem_cons_of_mem _ h)

/-- A write keeps the canonical form. -/
theorem Memory.wf_write {m : Memory} (h : Memory.wf m) (a : Nat) (v : Byte) : Memory.wf (Memory.write m a v) := by
  induction m with
  | nil => simp [Memory.wf, Memory.write]
  | cons d m ih =>
    obtain ⟨b, u⟩ := d
    have hb : ∀ c ∈ m, b < c.1 := (List.pairwise_cons.1 h).1
    have hm : Memory.wf m := (List.pairwise_cons.1 h).2
    simp only [Memory.write]
    split
    · refine List.pairwise_cons.2 ⟨fun c hc => ?_, h⟩
      rcases List.mem_cons.1 hc with hc | hc
      · simpa [hc]
      · have := hb c hc; simp only; omega
    · split
      · subst_vars; exact List.pairwise_cons.2 ⟨hb, hm⟩
      · refine List.pairwise_cons.2 ⟨fun c hc => ?_, ih hm⟩
        rcases Memory.mem_write hc with hc | hc
        · simp only [hc]; omega
        · exact hb c hc

theorem Memory.wf_writeList {m : Memory} (h : Memory.wf m) (a : Nat) (vs : List Byte) :
    Memory.wf (Memory.writeList m a vs) := by
  induction vs generalizing m a with
  | nil => exact h
  | cons v vs ih => exact ih (Memory.wf_write h a v) (a + 1)

/-- A block write writes exactly its bytes. -/
theorem Memory.read_writeList (m : Memory) (a : Nat) (vs : List Byte) (b : Nat) :
    Memory.read (Memory.writeList m a vs) b =
      if a ≤ b ∧ b < a + vs.length then vs[b - a]? else Memory.read m b := by
  induction vs generalizing m a with
  | nil => simp [Memory.writeList]
  | cons v vs ih =>
    simp only [Memory.writeList, ih, Memory.read_write, List.length_cons]
    by_cases h : b = a
    · subst h; simp
    · by_cases h1 : a ≤ b
      · obtain ⟨k, rfl⟩ := Nat.exists_eq_add_of_le h1
        obtain ⟨k, rfl⟩ : ∃ j, k = j + 1 := ⟨k - 1, by omega⟩
        have e1 : a + (k + 1) - (a + 1) = k := by omega
        have e2 : a + (k + 1) - a = k + 1 := by omega
        rw [e1, e2, List.getElem?_cons_succ]
        simp only [h, if_false]
        congr 1
        simp only [eq_iff_iff]; omega
      · simp only [h, if_false]
        rw [if_neg (by omega), if_neg (by omega)]

/-- A block read answers the bytes, or the fault of an unwritten one. -/
theorem Memory.readBlock_ok {buf : Buffer} {m : Memory} {a n : Nat} {v : Vector Byte n} :
    Memory.readBlock buf m a n = .ok v ↔ ∀ i, (h : i < n) → Memory.read m (a + i) = some v[i] := by
  induction n with
  | zero =>
    have : v = #v[] := by ext i h; omega
    subst this
    exact ⟨fun _ i h => absurd h (Nat.not_lt_zero i), fun _ => rfl⟩
  | succ n ih =>
    simp only [Memory.readBlock]
    constructor
    · intro h i hi
      split at h
      · cases h
      · next w hw =>
        split at h
        · next b hb =>
          cases h
          rcases Nat.lt_succ_iff_lt_or_eq.1 hi with hi' | rfl
          · rw [Vector.getElem_push_lt hi']; exact ih.1 hw i hi'
          · simpa using hb
        · cases h
    · intro h
      have hw : Memory.readBlock buf m a n = .ok v.pop := ih.2 fun i hi => by
        rw [h i (by omega)]; simp
      rw [hw]
      simp only [h n (by omega)]
      congr 1
      ext i hi
      rcases Nat.lt_succ_iff_lt_or_eq.1 hi with hi' | rfl
      · rw [Vector.getElem_push_lt hi']; simp
      · simp

/-- A block read that stops, stops at an unwritten byte of the block. -/
theorem Memory.readBlock_error {buf : Buffer} {m : Memory} {a n : Nat} {e : Fault}
    (h : Memory.readBlock buf m a n = .error e) :
    ∃ i, i < n ∧ Memory.read m (a + i) = none ∧ e = .unwritten buf (a + i) := by
  induction n with
  | zero => cases h
  | succ n ih =>
    simp only [Memory.readBlock] at h
    split at h
    · next e' h' =>
      cases h
      obtain ⟨i, hi, h1, h2⟩ := ih h'
      exact ⟨i, by omega, h1, h2⟩
    · split at h
      · cases h
      · next hn => cases h; exact ⟨n, by omega, hn, rfl⟩

theorem State.memRead_active (s : State) :
    s.memRead .active 0 16 = Memory.readBlock .active s.active 0 16 := if_pos (by decide)

theorem State.memRead_encoded (s : State) :
    s.memRead .encoded 0 32 = Memory.readBlock .encoded s.encoded 0 32 := if_pos (by decide)

/-- What `MemRead` of a whole array answers. -/
theorem State.memRead_active_ok {s : State} {u : Frame} :
    s.memRead .active 0 16 = .ok u ↔ ∀ i, (h : i < 16) → Memory.read s.active i = some u[i] := by
  rw [State.memRead_active, Memory.readBlock_ok]; simp

theorem State.memRead_encoded_ok {s : State} {e : EncFrame} :
    s.memRead .encoded 0 32 = .ok e ↔ ∀ i, (h : i < 32) → Memory.read s.encoded i = some e[i] := by
  rw [State.memRead_encoded, Memory.readBlock_ok]; simp

/-- What `MemWrite` of a whole array does: the array's content is replaced by a block write, nothing else changes. -/
@[simp] theorem State.memWrite_active (s : State) (u : Frame) :
    s.memWrite .active 0 u = .ok (s.setActive (Memory.writeList s.active 0 u.toList)) := if_pos (by decide)

@[simp] theorem State.memWrite_encoded (s : State) (e : EncFrame) :
    s.memWrite .encoded 0 e = .ok (s.setEncoded (Memory.writeList s.encoded 0 e.toList)) := if_pos (by decide)

/-- After a whole array is written, its bytes read as the array and every other address as before. -/
theorem Memory.read_writeVector (m : Memory) {n : Nat} (v : Vector Byte n) (a : Nat) :
    Memory.read (Memory.writeList m 0 v.toList) a = if h : a < n then some v[a] else Memory.read m a := by
  rw [Memory.read_writeList]
  by_cases h : a < n
  · simp [h]
  · simp [h]

/-- A write to an array keeps the canonical form of both. -/
theorem State.memWrite_wf {s t : State} {buf : Buffer} {i n : Nat} {v : Vector Byte n} (ha : Memory.wf s.active)
    (he : Memory.wf s.encoded) (h : s.memWrite buf i v = .ok t) : Memory.wf t.active ∧ Memory.wf t.encoded := by
  unfold State.memWrite at h
  split at h
  · cases h
    cases buf
    · exact ⟨Memory.wf_writeList ha i v.toList, he⟩
    · exact ⟨ha, Memory.wf_writeList he i v.toList⟩
  · cases h

/-- The arrays have the canonical form at reset. -/
theorem State.reset_memory_wf : Memory.wf State.reset.active ∧ Memory.wf State.reset.encoded :=
  ⟨List.Pairwise.nil, List.Pairwise.nil⟩

@[simp] theorem orFault_ok {α : Type} (a : α) (k : α → Host.Outcome State Fault Refusal) :
    orFault (.ok a) k = k a := rfl

@[simp] theorem orFault_error {α : Type} (e : Fault) (k : α → Host.Outcome State Fault Refusal) :
    orFault (.error e : Except Fault α) k = .fault e := rfl

/-- A continuation answers a next state only on a value. -/
theorem orFault_next {α : Type} {r : Except Fault α} {k : α → Host.Outcome State Fault Refusal} {t : State}
    (h : orFault r k = .next t) : ∃ a, r = .ok a ∧ k a = .next t := by
  cases r with
  | ok a => exact ⟨a, rfl, h⟩
  | error e => cases h

end Sys2Proof.Machine
end

