-- ==== Sys2Proof/Laws/Ops.lean ====
section
/-! SUPPORT. What each shared operation does, once: the queue, the environment, acceptance and completion. -/

namespace Sys2Proof.Machine

open Sys2Proof

/-- The two results of a push (R55). -/
theorem State.qPush_cases (s : State) (f : Frame) :
    (s.queue.length < 10 ∧ s.qPush f = (.ok, s.setQueue (s.queue ++ [f]))) ∨
    (10 ≤ s.queue.length ∧ s.qPush f = (.full, s)) := by
  unfold State.qPush
  by_cases h : s.queue.length < 10
  · exact .inl ⟨h, if_pos h⟩
  · exact .inr ⟨by omega, if_neg h⟩

/-- A push never makes the queue longer than its depth (R39). -/
theorem State.qPush_length {s : State} (h : s.queue.length ≤ 10) (f : Frame) : (s.qPush f).2.queue.length ≤ 10 := by
  rcases s.qPush_cases f with ⟨hl, e⟩ | ⟨_, e⟩
  · rw [e]; simp; omega
  · rw [e]; exact h

@[simp] theorem State.qPop_nil {s : State} (h : s.queue = []) : s.qPop = (none, s) := by
  simp [State.qPop, h]

@[simp] theorem State.qPop_cons {s : State} {f : Frame} {q : List Frame} (h : s.queue = f :: q) :
    s.qPop = (some f, s.setQueue q) := by
  simp [State.qPop, h]

@[simp] theorem State.keyPoll_eq (s : State) : s.keyPoll = (s.keyAnswer, s.setKeyAnswer none) := rfl

@[simp] theorem State.joinTake_eq (s : State) : s.joinTake = (s.joinPending, s.setJoinPending false) := rfl

@[simp] theorem State.render_eq (s : State) (dc : DisplayCommand) :
    s.render dc = s.setRendered (s.rendered ++ [dc]) := rfl

@[simp] theorem State.send_eq (s : State) (e : EncFrame) : s.send e = s.setSent (s.sent ++ [e]) := rfl

@[simp] theorem State.answer_eq (s : State) (r : OpResult) : s.answer r = .next (s.setResult r) := rfl

@[simp] theorem State.acceptKey_eq (s : State) (k : Key) :
    s.acceptKey k = (((s.setLastKey k).setCtrl .displaying).setWaitLeft (Config.queueWait s.keysAccepted)).setKeysAccepted
      (s.keysAccepted + 1) := rfl

@[simp] theorem State.completeKey_eq (s : State) : s.completeKey = s.setCtrl .idle := rfl

/-- The two alternatives of a full queue: the wait goes on, one step shorter, or the frame is dropped (R190). -/
theorem State.waitOrDrop_cases (s : State) :
    (∃ n, s.waitExpired = false ∧ s.waitLeft = n + 1 ∧ s.waitOrDrop = s.setWaitLeft n) ∨
    ((s.waitExpired = true ∨ s.waitLeft = 0) ∧ s.waitOrDrop = s.setCtrl .idle) := by
  cases he : s.waitExpired <;> cases hn : s.waitLeft <;> simp [State.waitOrDrop, he, hn]

theorem State.waitOrDrop_expired {s : State} (h : s.waitExpired = true) : s.waitOrDrop = s.setCtrl .idle := by
  simp [State.waitOrDrop, h]

theorem State.waitOrDrop_zero {s : State} (h : s.waitLeft = 0) : s.waitOrDrop = s.setCtrl .idle := by
  cases he : s.waitExpired <;> simp [State.waitOrDrop, h, he]

theorem State.waitOrDrop_succ {s : State} {n : Nat} (he : s.waitExpired = false) (h : s.waitLeft = n + 1) :
    s.waitOrDrop = s.setWaitLeft n := by
  simp [State.waitOrDrop, h, he]

@[simp] theorem State.completeFrame_eq (s : State) : s.completeFrame = (s.setJoinInProgress false).setLink .idle := rfl

/-- Accepting a join trigger never fails (R245). -/
@[simp] theorem State.acceptJoin_eq (s : State) (f : Frame) :
    s.acceptJoin f = .ok (((s.setActive (Memory.writeList s.active 0 f.toList)).setJoinInProgress true).setLink .encode) := by
  simp [State.acceptJoin]

/-- Accepting a queued frame never fails (R212). -/
@[simp] theorem State.acceptFrame_eq (s : State) (f : Frame) :
    s.acceptFrame f = .ok ((s.setActive (Memory.writeList s.active 0 f.toList)).setLink .encode) := by
  simp [State.acceptFrame]

/-- A state whose lists of placed choices, key answers and so on are what they were is what it was. -/
@[simp] theorem State.setKeyAnswer_self {s : State} (h : s.keyAnswer = none) : s.setKeyAnswer none = s := by
  cases s; simp only at h; subst h; rfl

@[simp] theorem State.setJoinPending_self {s : State} {b : Bool} (h : s.joinPending = b) : s.setJoinPending b = s := by
  cases s; simp only at h; subst h; rfl

end Sys2Proof.Machine
end

