-- ==== Sys2Proof/Laws/Controller.lean ====
section
/-! SUPPORT. What each Controller step can do, once, and the key events in terms of them. -/

namespace Sys2Proof.Machine

open Sys2Proof

/-- `C_INIT` in INIT (R166). -/
theorem execCInit_eq {s : State} (h : s.ctrl = .init) : execCInit s = .next (s.setCtrl .idle) := if_pos h

/-- `C_IDLE` with no event (R167). -/
theorem execCIdle_none {s : State} (h : s.ctrl = .idle) (hk : s.keyAnswer = none) : execCIdle s = .next s := by
  simp [execCIdle, h, hk]

/-- `C_IDLE` with an event (R167). -/
theorem execCIdle_some {s : State} {k : Key} (h : s.ctrl = .idle) (hk : s.keyAnswer = some k) :
    execCIdle s = .next ((s.setKeyAnswer none).acceptKey k) := by
  simp [execCIdle, h, hk]

/-- `C_DISPLAYING` with a recognised key (R168). -/
theorem execCDisplaying_recognised {s : State} (h : s.ctrl = .displaying) (hk : Key.recognised s.lastKey = true) :
    execCDisplaying s = .next (((s.setAct (keyEffect s.lastKey s.act)).setRendered
      (s.rendered ++ [displayCommand s.lastKey (keyEffect s.lastKey s.act)])).setCtrl .transmitting) := by
  simp [execCDisplaying, h, hk]

/-- `C_DISPLAYING` with an unrecognised key (R187). -/
theorem execCDisplaying_unrecognised {s : State} (h : s.ctrl = .displaying) (hk : Key.recognised s.lastKey = false) :
    execCDisplaying s = .next (s.setCtrl .transmitting) := by
  have he : keyEffect s.lastKey s.act = s.act := by
    revert hk; cases s.lastKey <;> simp [Key.recognised, keyEffect, effectUnrec]
  simp [execCDisplaying, h, hk, he, State.setAct, State.setCtrl]

/-- `C_TRANSMITTING` with room in the queue (R190). -/
theorem execCTransmitting_push {s : State} {f : Frame} (h : s.ctrl = .transmitting)
    (hf : messageFor s.senderAddr s.act s.lastKey = some f) (hq : s.queue.length < 10) :
    execCTransmitting s = .next ((s.setQueue (s.queue ++ [f])).setCtrl .idle) := by
  rcases s.qPush_cases f with ⟨_, e⟩ | ⟨hl, _⟩
  · simp [execCTransmitting, h, hf, pushOrWait, e]
  · omega

/-- `C_TRANSMITTING` with the queue full (R190). -/
theorem execCTransmitting_full {s : State} {f : Frame} (h : s.ctrl = .transmitting)
    (hf : messageFor s.senderAddr s.act s.lastKey = some f) (hq : 10 ≤ s.queue.length) :
    execCTransmitting s = .next s.waitOrDrop := by
  rcases s.qPush_cases f with ⟨hl, _⟩ | ⟨_, e⟩
  · omega
  · simp [execCTransmitting, h, hf, pushOrWait, e]

/-- `C_TRANSMITTING` with an unrecognised key (R187). -/
theorem execCTransmitting_none {s : State} (h : s.ctrl = .transmitting)
    (hf : messageFor s.senderAddr s.act s.lastKey = none) : execCTransmitting s = .next (s.setCtrl .idle) := by
  simp [execCTransmitting, h, hf]

/-- Everything a Controller step can do: if it answers a next state, one of these cases holds (R165). -/
theorem controllerStep_cases {s t : State} (h : controllerStep s = .next t) :
    (s.ctrl = .init ∧ t = s.setCtrl .idle) ∨
    (s.ctrl = .idle ∧ s.keyAnswer = none ∧ t = s) ∨
    (∃ k, s.ctrl = .idle ∧ s.keyAnswer = some k ∧ t = (s.setKeyAnswer none).acceptKey k) ∨
    (s.ctrl = .displaying ∧ Key.recognised s.lastKey = true ∧
      t = ((s.setAct (keyEffect s.lastKey s.act)).setRendered
        (s.rendered ++ [displayCommand s.lastKey (keyEffect s.lastKey s.act)])).setCtrl .transmitting) ∨
    (s.ctrl = .displaying ∧ Key.recognised s.lastKey = false ∧ t = s.setCtrl .transmitting) ∨
    (∃ f, s.ctrl = .transmitting ∧ messageFor s.senderAddr s.act s.lastKey = some f ∧ s.queue.length < 10 ∧
      t = (s.setQueue (s.queue ++ [f])).setCtrl .idle) ∨
    (∃ f, s.ctrl = .transmitting ∧ messageFor s.senderAddr s.act s.lastKey = some f ∧ 10 ≤ s.queue.length ∧
      t = s.waitOrDrop) ∨
    (s.ctrl = .transmitting ∧ messageFor s.senderAddr s.act s.lastKey = none ∧ t = s.setCtrl .idle) := by
  unfold controllerStep at h
  cases hc : s.ctrl <;> rw [hc] at h <;> simp only at h
  · rw [execCInit_eq hc] at h; cases h; simp
  · cases hk : s.keyAnswer with
    | none => rw [execCIdle_none hc hk] at h; cases h; simp
    | some k => rw [execCIdle_some hc hk] at h; cases h; simp
  · cases hk : Key.recognised s.lastKey with
    | true => rw [execCDisplaying_recognised hc hk] at h; cases h; simp
    | false => rw [execCDisplaying_unrecognised hc hk] at h; cases h; simp
  · cases hf : messageFor s.senderAddr s.act s.lastKey with
    | none => rw [execCTransmitting_none hc hf] at h; cases h; simp
    | some f =>
      by_cases hq : s.queue.length < 10
      · rw [execCTransmitting_push hc hf hq] at h; cases h; simp [hq]
      · rw [execCTransmitting_full hc hf (by omega)] at h; cases h
        simp [show 10 ≤ s.queue.length by omega]

/-- The Controller always has a step (R235). -/
theorem controllerStep_next (s : State) : ∃ t, controllerStep s = .next t := by
  unfold controllerStep
  cases hc : s.ctrl <;> simp only
  · exact ⟨_, execCInit_eq hc⟩
  · cases hk : s.keyAnswer with
    | none => exact ⟨_, execCIdle_none hc hk⟩
    | some k => exact ⟨_, execCIdle_some hc hk⟩
  · cases hk : Key.recognised s.lastKey with
    | true => exact ⟨_, execCDisplaying_recognised hc hk⟩
    | false => exact ⟨_, execCDisplaying_unrecognised hc hk⟩
  · cases hf : messageFor s.senderAddr s.act s.lastKey with
    | none => exact ⟨_, execCTransmitting_none hc hf⟩
    | some f =>
      by_cases hq : s.queue.length < 10
      · exact ⟨_, execCTransmitting_push hc hf hq⟩
      · exact ⟨_, execCTransmitting_full hc hf (by omega)⟩

/-- A key line in IDLE (R97, R167). -/
theorem keyLine_idle {s : State} (h : s.ctrl = .idle) (k : Key) :
    keyLine k s = .next ((s.setKeyAnswer none).acceptKey k) := by
  simp only [keyLine, h]
  rw [execCIdle_some (k := k) (by simpa using h) (by simp)]
  rfl

/-- A key line outside IDLE is read as `ctrl` (R97). -/
theorem keyLine_other {s : State} (h : s.ctrl ≠ .idle) (k : Key) : keyLine k s = controllerStep s := by
  unfold keyLine
  cases hc : s.ctrl <;> simp_all

/-- A Controller row answers a next state only where `ctrl_state` selects it, and then it is the Controller's step. -/
theorem execCRow_next {s t : State} {i : Instr}
    (hi : i = .cInit ∨ i = .cIdle ∨ i = .cDisplaying ∨ i = .cTransmitting) (h : exec i s = .next t) :
    controllerStep s = .next t := by
  rcases hi with rfl | rfl | rfl | rfl
  · by_cases hc : s.ctrl = .init
    · simpa [controllerStep, hc, exec] using h
    · exact absurd h (by simp [exec, execCInit, hc])
  · by_cases hc : s.ctrl = .idle
    · simpa [controllerStep, hc, exec] using h
    · exact absurd h (by simp [exec, execCIdle, hc])
  · by_cases hc : s.ctrl = .displaying
    · simpa [controllerStep, hc, exec] using h
    · exact absurd h (by simp [exec, execCDisplaying, hc])
  · by_cases hc : s.ctrl = .transmitting
    · simpa [controllerStep, hc, exec] using h
    · exact absurd h (by simp [exec, execCTransmitting, hc])

end Sys2Proof.Machine
end

