-- ==== Sys2Proof/Laws/Decode.lean ====
section
/-! SUPPORT. What the digits, the layouts and the words of a frame decode to, once. -/

namespace Sys2Proof

theorem asciiDigit_toNat (v p : Nat) : (asciiDigit v p).toNat = v / p % 10 + 0x30 := by simp [asciiDigit]; omega

/-- A digit byte of HLC gives its digit back (R86, R94). -/
@[simp] theorem digitValue_asciiDigit (v p : Nat) : digitValue (asciiDigit v p) = v / p % 10 := by
  simp [digitValue, asciiDigit_toNat]; omega

/-- The high nibble that the table's mask matches (R89). -/
@[simp] theorem asciiDigit_highNibble (v p : Nat) : (asciiDigit v p).extractLsb' 4 4 = 0x3 := by
  apply BitVec.eq_of_toNat_eq
  rw [BitVec.extractLsb'_toNat, asciiDigit_toNat, Nat.shiftRight_eq_div_pow]; simp; omega

@[simp] theorem takeBytes_toList {n : Nat} (v : Vector Byte n) : takeBytes n v.toList = .ok v := by
  simp [takeBytes]; rfl

/-- A frame word is decoded by the layout of its frame (R89). -/
@[simp] theorem decode_frame (f : Frame) : decode ⟨.frame, f.toList⟩ = decodeFrameLayout f := by
  simp [decode]

/-- Everything the decoding of a frame can do: a recognised layout whose row matches, or a rejection by name. -/
theorem decodeFrameLayout_cases (f : Frame) :
    (∃ l, frameLayout f = some l ∧ layoutBits f l = true ∧ decodeFrameLayout f = .ok (layoutOperation f l)) ∨
    (∃ l, frameLayout f = some l ∧ layoutBits f l = false ∧ decodeFrameLayout f = .error .frameBits) ∨
    (frameLayout f = none ∧ decodeFrameLayout f = .error .unknownLayout) := by
  unfold decodeFrameLayout
  cases frameLayout f with
  | none => simp
  | some l => cases hb : layoutBits f l <;> simp [hb]

end Sys2Proof
end

