-- ==== Sys2Proof/Laws/Fetch.lean ====
section
/-! SUPPORT. Which choice a step takes, and which are left for the next (R285). -/

namespace Sys2Proof.Machine

open Sys2Proof

/-- The choice a step takes is the upcoming one. -/
theorem takeStimulus_choice (s : State) : (takeStimulus s).1 = upcomingChoice s 0 := by
  unfold takeStimulus upcomingChoice
  cases h : s.stimulus <;> simp

/-- The choices that come after it are those of the state it leaves. -/
theorem upcomingChoice_takeStimulus (s : State) (k : Nat) :
    upcomingChoice (takeStimulus s).2 k = upcomingChoice s (k + 1) := by
  unfold takeStimulus upcomingChoice
  cases h : s.stimulus with
  | nil => simp [h]; congr 1; omega
  | cons c rest => simp

/-- Taking a choice changes the list of choices and the count of free ones only. -/
theorem takeStimulus_state (s : State) : (takeStimulus s).2 =
    { s with stimulus := (takeStimulus s).2.stimulus, tick := (takeStimulus s).2.tick } := by
  unfold takeStimulus
  cases h : s.stimulus with
  | nil => simp [State.setTick, h]
  | cons c rest => simp [State.setStimulus]

end Sys2Proof.Machine
end

