-- ==== Sys2Proof/Laws/PerInstr.lean ====
section
/-! SUPPORT. Per-operation families. -/

namespace Sys2Proof.Laws

open Sys2Proof

/-- How many bytes a word of a port has: its pattern in whole bytes, and the operand bytes that follow it. -/
def EncodedSize.portBytes : Port → Nat
  | .encodeNibble | .decodeNibble | .parityCheck | .encodeByte | .digits2 | .tag | .key | .ctrlState | .linkState => 1
  | .decodeByte | .syndrome | .digits3 => 2
  | .frame | .encodeFrame => 16
  | .buildVac => 5
  | .decodeFrame => 32
  | .joinTrigger | .rst => 0

/-- The word of an operation has the size its port takes. -/
def EncodedSize.Statement (i : Instr) : Prop := (encode i).bytes.length = EncodedSize.portBytes (encode i).port

theorem EncodedSize.encn (n : Nibble) : EncodedSize.Statement (.encn n) := rfl

theorem EncodedSize.decn (r : Byte) : EncodedSize.Statement (.decn r) := rfl

theorem EncodedSize.parchk (r : Byte) : EncodedSize.Statement (.parchk r) := rfl

theorem EncodedSize.encb (b : Byte) : EncodedSize.Statement (.encb b) := rfl

theorem EncodedSize.decb (r0 r1 : Byte) : EncodedSize.Statement (.decb r0 r1) := rfl

theorem EncodedSize.syn0 (r : Byte) : EncodedSize.Statement (.syn0 r) := rfl

theorem EncodedSize.syn1 (r : Byte) : EncodedSize.Statement (.syn1 r) := rfl

theorem EncodedSize.syn2 (r : Byte) : EncodedSize.Statement (.syn2 r) := rfl

theorem EncodedSize.syn3 (r : Byte) : EncodedSize.Statement (.syn3 r) := rfl

theorem EncodedSize.syn4 (r : Byte) : EncodedSize.Statement (.syn4 r) := rfl

theorem EncodedSize.syn5 (r : Byte) : EncodedSize.Statement (.syn5 r) := rfl

theorem EncodedSize.syn6 (r : Byte) : EncodedSize.Statement (.syn6 r) := rfl

theorem EncodedSize.syn7 (r : Byte) : EncodedSize.Statement (.syn7 r) := rfl

theorem EncodedSize.dig3 (v : U16) : EncodedSize.Statement (.dig3 v) := rfl

theorem EncodedSize.dig2 (v : Byte) : EncodedSize.Statement (.dig2 v) := rfl

theorem EncodedSize.buildXyz (addr : Address) (x y : U16) (z : Byte) : EncodedSize.Statement (.buildXyz addr x y z) := by simp [EncodedSize.Statement, EncodedSize.portBytes, encode, frameWord]

theorem EncodedSize.buildRot (addr : Address) (angle : Byte) : EncodedSize.Statement (.buildRot addr angle) := by simp [EncodedSize.Statement, EncodedSize.portBytes, encode, frameWord]

theorem EncodedSize.buildVon (addr : Address) : EncodedSize.Statement (.buildVon addr) := by simp [EncodedSize.Statement, EncodedSize.portBytes, encode, frameWord]

theorem EncodedSize.buildVoff (addr : Address) : EncodedSize.Statement (.buildVoff addr) := by simp [EncodedSize.Statement, EncodedSize.portBytes, encode, frameWord]

theorem EncodedSize.buildVac (addr : Address) (on : Bool) : EncodedSize.Statement (.buildVac addr on) := by simp [EncodedSize.Statement, EncodedSize.portBytes, encode]

theorem EncodedSize.buildJoin (addr : Address) : EncodedSize.Statement (.buildJoin addr) := by simp [EncodedSize.Statement, EncodedSize.portBytes, encode, frameWord]

theorem EncodedSize.encf (u : Frame) : EncodedSize.Statement (.encf u) := by simp [EncodedSize.Statement, EncodedSize.portBytes, encode]

theorem EncodedSize.decf (r : EncFrame) : EncodedSize.Statement (.decf r) := by simp [EncodedSize.Statement, EncodedSize.portBytes, encode]

theorem EncodedSize.tagJoin : EncodedSize.Statement (.tagJoin) := rfl

theorem EncodedSize.tagXyz : EncodedSize.Statement (.tagXyz) := rfl

theorem EncodedSize.tagRot : EncodedSize.Statement (.tagRot) := rfl

theorem EncodedSize.tagVac : EncodedSize.Statement (.tagVac) := rfl

theorem EncodedSize.k1 : EncodedSize.Statement (.k1) := rfl

theorem EncodedSize.k2 : EncodedSize.Statement (.k2) := rfl

theorem EncodedSize.k3 : EncodedSize.Statement (.k3) := rfl

theorem EncodedSize.k4 : EncodedSize.Statement (.k4) := rfl

theorem EncodedSize.k5 : EncodedSize.Statement (.k5) := rfl

theorem EncodedSize.k6 : EncodedSize.Statement (.k6) := rfl

theorem EncodedSize.k7 : EncodedSize.Statement (.k7) := rfl

theorem EncodedSize.k8 : EncodedSize.Statement (.k8) := rfl

theorem EncodedSize.k9 : EncodedSize.Statement (.k9) := rfl

theorem EncodedSize.ka : EncodedSize.Statement (.ka) := rfl

theorem EncodedSize.kb : EncodedSize.Statement (.kb) := rfl

theorem EncodedSize.kc : EncodedSize.Statement (.kc) := rfl

theorem EncodedSize.k0 : EncodedSize.Statement (.k0) := rfl

theorem EncodedSize.kunrecD : EncodedSize.Statement (.kunrecD) := rfl

theorem EncodedSize.kunrecE : EncodedSize.Statement (.kunrecE) := rfl

theorem EncodedSize.kunrecF : EncodedSize.Statement (.kunrecF) := rfl

theorem EncodedSize.cInit : EncodedSize.Statement (.cInit) := rfl

theorem EncodedSize.cIdle : EncodedSize.Statement (.cIdle) := rfl

theorem EncodedSize.cDisplaying : EncodedSize.Statement (.cDisplaying) := rfl

theorem EncodedSize.cTransmitting : EncodedSize.Statement (.cTransmitting) := rfl

theorem EncodedSize.lInit : EncodedSize.Statement (.lInit) := rfl

theorem EncodedSize.lIdle : EncodedSize.Statement (.lIdle) := rfl

theorem EncodedSize.lEncode : EncodedSize.Statement (.lEncode) := rfl

theorem EncodedSize.lTransmit : EncodedSize.Statement (.lTransmit) := rfl

theorem EncodedSize.joinTrigger : EncodedSize.Statement (.joinTrigger) := rfl

theorem EncodedSize.reset : EncodedSize.Statement (.reset) := rfl

end Sys2Proof.Laws
end

