-- ==== Sys2Proof/Laws/RadioLink.lean ====
section
/-! SUPPORT. What each Radio Link step can do, once. -/

namespace Sys2Proof.Machine

open Sys2Proof

/-- `L_INIT` in INIT (R211). -/
theorem execLInit_eq {s : State} (h : s.link = .init) : execLInit s = .next (s.setLink .idle) := if_pos h

/-- `L_IDLE` with a join trigger pending (R212, R215). -/
theorem execLIdle_join {s : State} (h : s.link = .idle) (hj : s.joinPending = true) :
    execLIdle s = .next ((((s.setJoinPending false).setActive
      (Memory.writeList s.active 0 (buildJoin s.senderAddr).toList)).setJoinInProgress true).setLink .encode) := by
  simp [execLIdle, h, hj]

/-- `L_IDLE` with a frame in the queue (R212, R216). -/
theorem execLIdle_frame {s : State} {f : Frame} {q : List Frame} (h : s.link = .idle) (hj : s.joinPending = false)
    (hq : s.queue = f :: q) :
    execLIdle s = .next (((s.setQueue q).setActive (Memory.writeList s.active 0 f.toList)).setLink .encode) := by
  simp [execLIdle, h, hj, State.qPop_cons hq]

/-- `L_IDLE` with nothing to do (R216). -/
theorem execLIdle_empty {s : State} (h : s.link = .idle) (hj : s.joinPending = false) (hq : s.queue = []) :
    execLIdle s = .next s := by
  simp [execLIdle, h, hj, hq]

/-- `L_ENCODE` with the frame written (R213). -/
theorem execLEncode_eq {s : State} {u : Frame} (h : s.link = .encode) (hu : s.memRead .active 0 16 = .ok u) :
    execLEncode s = .next ((s.setEncoded
      (Memory.writeList s.encoded 0 (encf Config.hammingVariant u).toList)).setLink .transmit) := by
  simp [execLEncode, h, hu]

/-- `L_ENCODE` with a byte not written (R41). -/
theorem execLEncode_fault {s : State} {e : Fault} (h : s.link = .encode) (hu : s.memRead .active 0 16 = .error e) :
    execLEncode s = .fault e := by
  simp [execLEncode, h, hu]

/-- `L_TRANSMIT` with the frame written (R214). -/
theorem execLTransmit_eq {s : State} {e : EncFrame} (h : s.link = .transmit) (he : s.memRead .encoded 0 32 = .ok e) :
    execLTransmit s = .next (((s.setSent (s.sent ++ [e])).setJoinInProgress false).setLink .idle) := by
  simp [execLTransmit, h, he]

/-- `L_TRANSMIT` with a byte not written (R41). -/
theorem execLTransmit_fault {s : State} {e : Fault} (h : s.link = .transmit)
    (he : s.memRead .encoded 0 32 = .error e) : execLTransmit s = .fault e := by
  simp [execLTransmit, h, he]

/-- Everything a Radio Link row can do: if it answers a next state, one of these cases holds (R210). -/
theorem execLRow_cases {s t : State} {i : Instr} (hi : i = .lInit ∨ i = .lIdle ∨ i = .lEncode ∨ i = .lTransmit)
    (h : exec i s = .next t) :
    (s.link = .init ∧ t = s.setLink .idle) ∨
    (s.link = .idle ∧ s.joinPending = true ∧
      t = (((s.setJoinPending false).setActive
        (Memory.writeList s.active 0 (buildJoin s.senderAddr).toList)).setJoinInProgress true).setLink .encode) ∨
    (∃ f q, s.link = .idle ∧ s.joinPending = false ∧ s.queue = f :: q ∧
      t = ((s.setQueue q).setActive (Memory.writeList s.active 0 f.toList)).setLink .encode) ∨
    (s.link = .idle ∧ s.joinPending = false ∧ s.queue = [] ∧ t = s) ∨
    (∃ u, s.link = .encode ∧ s.memRead .active 0 16 = .ok u ∧
      t = (s.setEncoded (Memory.writeList s.encoded 0 (encf Config.hammingVariant u).toList)).setLink .transmit) ∨
    (∃ e, s.link = .transmit ∧ s.memRead .encoded 0 32 = .ok e ∧
      t = ((s.setSent (s.sent ++ [e])).setJoinInProgress false).setLink .idle) := by
  rcases hi with rfl | rfl | rfl | rfl <;> simp only [exec] at h
  · by_cases hl : s.link = .init
    · rw [execLInit_eq hl] at h; cases h; exact .inl ⟨hl, rfl⟩
    · exact absurd h (by simp [execLInit, hl])
  · by_cases hl : s.link = .idle
    · cases hj : s.joinPending with
      | true => rw [execLIdle_join hl hj] at h; cases h; exact .inr (.inl ⟨hl, rfl, rfl⟩)
      | false =>
        cases hq : s.queue with
        | nil => rw [execLIdle_empty hl hj hq] at h; cases h; exact .inr (.inr (.inr (.inl ⟨hl, rfl, rfl, rfl⟩)))
        | cons f q =>
          rw [execLIdle_frame hl hj hq] at h; cases h
          exact .inr (.inr (.inl ⟨f, q, hl, rfl, rfl, rfl⟩))
    · exact absurd h (by simp [execLIdle, hl])
  · by_cases hl : s.link = .encode
    · cases hu : s.memRead .active 0 16 with
      | ok u =>
        rw [execLEncode_eq hl hu] at h; cases h
        exact .inr (.inr (.inr (.inr (.inl ⟨u, hl, rfl, rfl⟩))))
      | error e => rw [execLEncode_fault hl hu] at h; cases h
    · exact absurd h (by simp [execLEncode, hl])
  · by_cases hl : s.link = .transmit
    · cases he : s.memRead .encoded 0 32 with
      | ok e =>
        rw [execLTransmit_eq hl he] at h; cases h
        exact .inr (.inr (.inr (.inr (.inr ⟨e, hl, rfl, rfl⟩))))
      | error e => rw [execLTransmit_fault hl he] at h; cases h
    · exact absurd h (by simp [execLTransmit, hl])

end Sys2Proof.Machine
end

