-- ==== Sys2Proof/Tests/Slice0.lean ====
section
/-! SUPPORT. Tests: well-formedness, decoding of words written out from the specification's encodings, worked examples of
95_test_vectors.md (their numbers stand before each test), and a witness for each statement that has hypotheses. -/

namespace Sys2Proof.Tests

open Sys2Proof Sys2Proof.Machine

/-- The address of the specification's examples. -/
def addr : Address := #v[0x47, 0x41, 0x85, 0x89]

/-- The reset state with that address at the input. -/
def base : State := { State.reset with senderAddr := addr }

/-- The Controller in a state, with a last key and an actuation state. -/
def ctrlAt (c : CtrlState) (k : Key) (a : Act) : State := { base with ctrl := c, lastKey := k, act := a }

/-- The Radio Link in a state. -/
def linkAt (l : LinkState) : State := { base with link := l }

/-- The next state, if there is one. -/
def nextOf (o : Host.Outcome State Fault Refusal) : Option State :=
  match o with
  | .next t => some t
  | .fault _ | .refused _ => none

/-- The outputs of an operation. -/
def resultOf (i : Instr) : Option OpResult := (nextOf (exec i base)).map (·.result)

/-! ### Well-formedness: one ill-formed operation for each check -/

theorem test_wellFormed_x : Instr.wellFormed (.buildXyz addr 1000 0 0) = false := by decide
theorem test_wellFormed_y : Instr.wellFormed (.buildXyz addr 0 1000 0) = false := by decide
theorem test_wellFormed_z : Instr.wellFormed (.buildXyz addr 0 0 100) = false := by decide

/-! ### Decoding: every constructor, by a word written out from its encoding (R70 to R87, opcode_table.json) -/

theorem test_decode_codec :
    decode ⟨.encodeNibble, [0b0010]⟩ = .ok (.encn 0x2) ∧ decode ⟨.decodeNibble, [0b00111011]⟩ = .ok (.decn 0x3B) ∧
    decode ⟨.parityCheck, [0b10000001]⟩ = .ok (.parchk 0x81) ∧ decode ⟨.encodeByte, [0b01000111]⟩ = .ok (.encb 0x47) ∧
    decode ⟨.decodeByte, [0b01110001, 0b01000111]⟩ = .ok (.decb 0x71 0x47) := by decide

theorem test_decode_syndromes :
    decode ⟨.syndrome, [0b000, 0x3B]⟩ = .ok (.syn0 0x3B) ∧ decode ⟨.syndrome, [0b001, 0x3B]⟩ = .ok (.syn1 0x3B) ∧
    decode ⟨.syndrome, [0b010, 0x3B]⟩ = .ok (.syn2 0x3B) ∧ decode ⟨.syndrome, [0b011, 0x3B]⟩ = .ok (.syn3 0x3B) ∧
    decode ⟨.syndrome, [0b100, 0x3B]⟩ = .ok (.syn4 0x3B) ∧ decode ⟨.syndrome, [0b101, 0x3B]⟩ = .ok (.syn5 0x3B) ∧
    decode ⟨.syndrome, [0b110, 0x3B]⟩ = .ok (.syn6 0x3B) ∧ decode ⟨.syndrome, [0b111, 0x3B]⟩ = .ok (.syn7 0x3B) := by
  decide

theorem test_decode_digits :
    decode ⟨.digits3, [0xD2, 0x04]⟩ = .ok (.dig3 1234) ∧ decode ⟨.digits2, [0b01011010]⟩ = .ok (.dig2 90) := by decide

theorem test_decode_xyz :
    decode ⟨.frame, [0x22, 0x47, 0x41, 0x85, 0x89, 0x58, 0x59, 0x5A, 0x31, 0x35, 0x30, 0x30, 0x37, 0x35, 0x39, 0x30]⟩ =
      .ok (.buildXyz addr 150 75 90) := by decide

theorem test_decode_rot :
    decode ⟨.frame, [0x23, 0x47, 0x41, 0x85, 0x89, 0x52, 0x4F, 0x54, 0x31, 0x37, 0x30, 0, 0, 0, 0, 0]⟩ =
      .ok (.buildRot addr 170) := by decide

theorem test_decode_vac :
    decode ⟨.frame, [0x24, 0x47, 0x41, 0x85, 0x89, 0x56, 0x4F, 0x4E, 0, 0, 0, 0, 0, 0, 0, 0]⟩ = .ok (.buildVon addr) ∧
    decode ⟨.frame, [0x24, 0x47, 0x41, 0x85, 0x89, 0x56, 0x4F, 0x46, 0x46, 0, 0, 0, 0, 0, 0, 0]⟩ =
      .ok (.buildVoff addr) ∧
    decode ⟨.buildVac, [0b1, 0x47, 0x41, 0x85, 0x89]⟩ = .ok (.buildVac addr true) ∧
    decode ⟨.buildVac, [0b0, 0x47, 0x41, 0x85, 0x89]⟩ = .ok (.buildVac addr false) := by decide

theorem test_decode_join :
    decode ⟨.frame, [0x20, 0x47, 0x41, 0x85, 0x89, 0x4A, 0x4F, 0x49, 0x4E, 0, 0, 0, 0, 0, 0, 0]⟩ =
      .ok (.buildJoin addr) := by decide

theorem test_decode_frames :
    decode ⟨.encodeFrame, [1, 2, 3, 4, 5, 6, 7, 8, 9, 10, 11, 12, 13, 14, 15, 16]⟩ =
      .ok (.encf #v[1, 2, 3, 4, 5, 6, 7, 8, 9, 10, 11, 12, 13, 14, 15, 16]) ∧
    decode ⟨.decodeFrame, List.replicate 31 0x2B ++ [0x01]⟩ = .ok (.decf ((Vector.replicate 31 0x2B).push 0x01)) := by
  decide

theorem test_decode_tags :
    decode ⟨.tag, [0b00100000]⟩ = .ok .tagJoin ∧ decode ⟨.tag, [0b00100010]⟩ = .ok .tagXyz ∧
    decode ⟨.tag, [0b00100011]⟩ = .ok .tagRot ∧ decode ⟨.tag, [0b00100100]⟩ = .ok .tagVac := by decide

theorem test_decode_grid_keys :
    decode ⟨.key, [0b0001]⟩ = .ok .k1 ∧ decode ⟨.key, [0b0010]⟩ = .ok .k2 ∧ decode ⟨.key, [0b0011]⟩ = .ok .k3 ∧
    decode ⟨.key, [0b0100]⟩ = .ok .k4 ∧ decode ⟨.key, [0b0101]⟩ = .ok .k5 ∧ decode ⟨.key, [0b0110]⟩ = .ok .k6 ∧
    decode ⟨.key, [0b0111]⟩ = .ok .k7 ∧ decode ⟨.key, [0b1000]⟩ = .ok .k8 ∧ decode ⟨.key, [0b1001]⟩ = .ok .k9 := by
  decide

theorem test_decode_other_keys :
    decode ⟨.key, [0b0000]⟩ = .ok .k0 ∧ decode ⟨.key, [0b1010]⟩ = .ok .ka ∧ decode ⟨.key, [0b1011]⟩ = .ok .kb ∧
    decode ⟨.key, [0b1100]⟩ = .ok .kc ∧ decode ⟨.key, [0b1101]⟩ = .ok .kunrecD ∧
    decode ⟨.key, [0b1110]⟩ = .ok .kunrecE ∧ decode ⟨.key, [0b1111]⟩ = .ok .kunrecF := by decide

theorem test_decode_steps :
    decode ⟨.ctrlState, [0b00]⟩ = .ok .cInit ∧ decode ⟨.ctrlState, [0b01]⟩ = .ok .cIdle ∧
    decode ⟨.ctrlState, [0b10]⟩ = .ok .cDisplaying ∧ decode ⟨.ctrlState, [0b11]⟩ = .ok .cTransmitting ∧
    decode ⟨.linkState, [0b00]⟩ = .ok .lInit ∧ decode ⟨.linkState, [0b01]⟩ = .ok .lIdle ∧
    decode ⟨.linkState, [0b10]⟩ = .ok .lEncode ∧ decode ⟨.linkState, [0b11]⟩ = .ok .lTransmit := by decide

theorem test_decode_events :
    decode ⟨.joinTrigger, []⟩ = .ok .joinTrigger ∧ decode ⟨.rst, []⟩ = .ok .reset := by decide

/-! Rejections, each by its name. -/

theorem test_reject_length : decode ⟨.decodeByte, [0x71]⟩ = .error .badLength := by decide
theorem test_reject_reserved : decode ⟨.ctrlState, [0b100]⟩ = .error .reservedBits := by decide
theorem test_reject_tag : decode ⟨.tag, [0x21]⟩ = .error .unknownTag := by decide

theorem test_reject_layout :
    decode ⟨.frame, [0x24, 0x47, 0x41, 0x85, 0x89, 0x56, 0x4F, 0x4E, 0x4E, 0, 0, 0, 0, 0, 0, 0]⟩ =
      .error .unknownLayout := by decide

theorem test_reject_padding :
    decode ⟨.frame, [0x24, 0x47, 0x41, 0x85, 0x89, 0x56, 0x4F, 0x4E, 0, 0, 0, 0, 0, 0, 0, 1]⟩ =
      .error .frameBits := by decide

theorem test_reject_digit :
    decode ⟨.frame, [0x22, 0x47, 0x41, 0x85, 0x89, 0x58, 0x59, 0x5A, 0x40, 0x30, 0x30, 0x30, 0x30, 0x30, 0x30, 0x30]⟩ =
      .error .frameBits := by decide

/-- R89: of a digit byte only the high nibble is matched; 0x3A and 0x3F are digit bytes of a free value. -/
theorem test_decode_nonDecimal :
    decode ⟨.frame, [0x22, 0x47, 0x41, 0x85, 0x89, 0x58, 0x59, 0x5A, 0x30, 0x30, 0x37, 0x30, 0x30, 0x3A, 0x39, 0x3F]⟩ =
      .ok (.buildXyz addr 7 (BitVec.ofNat 16 (Config.nonDecimalDigit 0x3A))
        (BitVec.ofNat 8 (90 + Config.nonDecimalDigit 0x3F))) := by
  show Except.ok (Instr.buildXyz addr 7 (BitVec.ofNat 16 (0 + Config.nonDecimalDigit 0x3A)) _) = _
  rw [Nat.zero_add]; rfl

/-- R89: the three digits 256 are a ROT frame's, of a free angle. -/
theorem test_decode_angleBeyondByte :
    decode ⟨.frame, [0x23, 0x47, 0x41, 0x85, 0x89, 0x52, 0x4F, 0x54, 0x32, 0x35, 0x36, 0, 0, 0, 0, 0]⟩ =
      .ok (.buildRot addr (Config.angleBeyondByte 256)) := rfl

/-! Bare words of the table, and a step that runs one right after reset. -/

theorem test_tableWord_key : decodeTableWord 8 0b0001 = some .k1 := by decide
theorem test_tableWord_tag : decodeTableWord 8 0b00100100 = some .tagVac := by decide
theorem test_tableWord_decn : decodeTableWord 8 0x3B = some (.decn 0x3B) := by decide
theorem test_tableWord_decb : decodeTableWord 16 0x4771 = some (.decb 0x71 0x47) := by decide

theorem test_tableWord_xyz :
    decodeTableWord 128 0x224741858958595A3030303135303030 = some (.buildXyz addr 0 150 0) := by decide

theorem test_tableWord_encf : decodeTableWord 128 0x01 = some (.encf ((Vector.replicate 15 0).push 1)) := by decide
theorem test_tableWord_event : decodeTableWord 0 0 = some .joinTrigger := by decide

theorem test_withFetchWord_key : (nextOf (step (State.reset.withFetchWord 8 1))).map (·.ctrl) = some .idle := by decide

theorem test_withFetchWord_builder :
    (nextOf (step (State.reset.withFetchWord 128 0x20000000004A4F494E00000000000000))).map (·.result) =
      some (.frame #v[0x20, 0, 0, 0, 0, 0x4A, 0x4F, 0x49, 0x4E, 0, 0, 0, 0, 0, 0, 0]) := by decide

/-! ### The codec -/

/-- R101, the example. -/
theorem test_encn : resultOf (.encn 0x2) = some (.codeword 0x2B) := by decide

/-- R106, the example: 0x2B with bit 4 flipped. -/
theorem test_decn : resultOf (.decn 0x3B) = some (.nibble 0x2 6) := by decide

/-- V5: bits 4 and 7 of 0x5A flipped, decoded wrong. -/
theorem test_decn_double : resultOf (.decn 0xCA) = some (.nibble 0xC 1) := by decide

/-- V4, row 3: nibble and syndrome of the received bytes 30 to 3F. -/
theorem test_decn_row3 : (List.range 16).map (fun j => (decn .a (BitVec.ofNat 8 (0x30 + j)), syndrome .a (BitVec.ofNat 8 (0x30 + j)))) =
    [(7, 3), (7, 3), (3, 2), (3, 2), (3, 1), (3, 1), (3, 0), (3, 0), (0xB, 7), (0xB, 7), (2, 6), (2, 6), (1, 5), (1, 5),
     (3, 4), (3, 4)] := by decide

/-- V7: 0x3B mismatches, 0x81 matches. -/
theorem test_parchk : parMatch 0x3B = false ∧ parMismatch 0x3B = true ∧ parMatch 0x81 = true := by decide

/-- V7: the two senses of `has_parity_fault` on 0x1C. -/
theorem test_parchk_senses :
    hasParityFault .trueOnMatch 0x1C = false ∧ hasParityFault .trueOnMismatch 0x1C = true := by decide

/-- V8 -/
theorem test_encb : resultOf (.encb 0x41) = some (.bytePair 0x1D 0x47) := by decide

/-- V9: one flip in each codeword. -/
theorem test_decb : resultOf (.decb 0x02 0x76) = some (.byte 0x30 false false 1 3) := by decide

/-- V9: two flips in the first codeword. -/
theorem test_decb_miscorrected : resultOf (.decb 0x06 0x36) = some (.byte 0x34 true true 3 0) := by decide

/-- R108, rows 3, 5, 6 and 7, which differ from the source's table. -/
theorem test_syn_data :
    resultOf (.syn3 0x00) = some (.corrected 0x40 0x4) ∧ resultOf (.syn5 0x00) = some (.corrected 0x20 0x2) ∧
    resultOf (.syn6 0x3B) = some (.corrected 0x2B 0x2) ∧ resultOf (.syn7 0x00) = some (.corrected 0x80 0x8) := by decide

/-- R108, rows 0, 1, 2 and 4. -/
theorem test_syn_check :
    resultOf (.syn0 0x5A) = some (.corrected 0x5A 0x5) ∧ resultOf (.syn1 0x5A) = some (.corrected 0x58 0x5) ∧
    resultOf (.syn2 0x5A) = some (.corrected 0x5E 0x5) ∧ resultOf (.syn4 0x5A) = some (.corrected 0x52 0x5) := by decide

/-- Conflict C1: the sixteen codewords of variant B. -/
theorem test_variantB : (List.range 16).map (fun n => encn .b (BitVec.ofNat 4 n)) =
    [0x00, 0x1E, 0x27, 0x39, 0x4B, 0x55, 0x6C, 0x72, 0x8D, 0x93, 0xAA, 0xB4, 0xC6, 0xD8, 0xE1, 0xFF] := by decide

/-! ### Builders, tags, frames -/

/-- V10 -/
theorem test_dig3 : resultOf (.dig3 65535) = some (.digits3 0x35 0x33 0x35) := by decide

/-- V10 -/
theorem test_dig2 : resultOf (.dig2 123) = some (.digits2 0x32 0x33) := by decide

/-- V11: values that lose their upper digits. -/
theorem test_buildXyz : resultOf (.buildXyz addr 65535 1234 255) = some (.frame
    #v[0x22, 0x47, 0x41, 0x85, 0x89, 0x58, 0x59, 0x5A, 0x35, 0x33, 0x35, 0x32, 0x33, 0x34, 0x35, 0x35]) := by decide

/-- V11 -/
theorem test_buildRot : resultOf (.buildRot addr 10) = some (.frame
    #v[0x23, 0x47, 0x41, 0x85, 0x89, 0x52, 0x4F, 0x54, 0x30, 0x31, 0x30, 0, 0, 0, 0, 0]) := by decide

/-- V11 -/
theorem test_buildVon : resultOf (.buildVon addr) = some (.frame
    #v[0x24, 0x47, 0x41, 0x85, 0x89, 0x56, 0x4F, 0x4E, 0, 0, 0, 0, 0, 0, 0, 0]) := by decide

/-- V11 -/
theorem test_buildVoff : resultOf (.buildVoff addr) = some (.frame
    #v[0x24, 0x47, 0x41, 0x85, 0x89, 0x56, 0x4F, 0x46, 0x46, 0, 0, 0, 0, 0, 0, 0]) := by decide

/-- V11 -/
theorem test_buildVac : resultOf (.buildVac addr true) = resultOf (.buildVon addr) ∧
    resultOf (.buildVac addr false) = resultOf (.buildVoff addr) := by decide

/-- S7 -/
theorem test_buildJoin : resultOf (.buildJoin addr) = some (.frame
    #v[0x20, 0x47, 0x41, 0x85, 0x89, 0x4A, 0x4F, 0x49, 0x4E, 0, 0, 0, 0, 0, 0, 0]) := by decide

/-- R73 -/
theorem test_tags : resultOf .tagJoin = some (.tag 0x20) ∧ resultOf .tagXyz = some (.tag 0x22) ∧
    resultOf .tagRot = some (.tag 0x23) ∧ resultOf .tagVac = some (.tag 0x24) := by decide

/-- S4, derived continuation. -/
theorem test_encf : resultOf (.encf
      #v[0x22, 0x47, 0x41, 0x85, 0x89, 0x58, 0x59, 0x5A, 0x30, 0x30, 0x30, 0x31, 0x35, 0x30, 0x30, 0x30]) =
    some (.encFrame #v[0x2B, 0x2B, 0x71, 0x47, 0x1D, 0x47, 0x5A, 0x8E, 0x93, 0x8E, 0x8E, 0x5A, 0x93, 0x5A, 0xA5, 0x5A,
      0x00, 0x36, 0x00, 0x36, 0x00, 0x36, 0x1D, 0x36, 0x5A, 0x36, 0x00, 0x36, 0x00, 0x36, 0x00, 0x36]) := by decide

/-- R153, the example: byte 0 of the encoded frame received with bit 4 flipped. -/
def receivedFrame : EncFrame :=
  #v[0x3B, 0x2B, 0x71, 0x47, 0x1D, 0x47, 0x5A, 0x8E, 0x93, 0x8E, 0x8E, 0x5A, 0x93, 0x5A, 0xA5, 0x5A,
     0x00, 0x36, 0x00, 0x36, 0x00, 0x36, 0x1D, 0x36, 0x5A, 0x36, 0x00, 0x36, 0x00, 0x36, 0x00, 0x36]

theorem test_decf : resultOf (.decf receivedFrame) = some (.decFrame
    #v[0x22, 0x47, 0x41, 0x85, 0x89, 0x58, 0x59, 0x5A, 0x30, 0x30, 0x30, 0x31, 0x35, 0x30, 0x30, 0x30]
    ((Vector.replicate 32 true).set 0 false) ((Vector.replicate 32 0).set 0 6)) := by decide

/-! ### Key effects (V14) and Controller steps (V15) -/

/-- `act` after one `press` from IDLE. -/
def pressed (i : Instr) (a : Act) : Option Act := (nextOf (pressKey i (ctrlAt .idle .kc a))).map (·.act)

/-- The last frame in the queue after one `press` from IDLE. -/
def pushed (i : Instr) (a : Act) : Option Frame :=
  (nextOf (pressKey i (ctrlAt .idle .kc a))).bind fun t => t.queue.getLast?

theorem test_k1 : pressed .k1 ⟨75, 0, 20, 30, true⟩ = some ⟨0, 150, 20, 30, true⟩ := by decide
theorem test_k2 : pressed .k2 ⟨0, 0, 20, 30, true⟩ = some ⟨75, 150, 20, 30, true⟩ := by decide
theorem test_k3 : pressed .k3 ⟨0, 0, 0, 0, false⟩ = some ⟨150, 150, 0, 0, false⟩ := by decide
theorem test_k4 : pressed .k4 ⟨150, 0, 0, 0, false⟩ = some ⟨0, 75, 0, 0, false⟩ := by decide
theorem test_k5 : pressed .k5 ⟨0, 0, 0, 0, false⟩ = some ⟨75, 75, 0, 0, false⟩ := by decide
theorem test_k6 : pressed .k6 ⟨0, 0, 0, 0, false⟩ = some ⟨150, 75, 0, 0, false⟩ := by decide
theorem test_k7 : pressed .k7 ⟨150, 150, 0, 0, false⟩ = some ⟨0, 0, 0, 0, false⟩ := by decide
theorem test_k8 : pressed .k8 ⟨0, 150, 0, 0, false⟩ = some ⟨75, 0, 0, 0, false⟩ := by decide
theorem test_k9 : pressed .k9 ⟨0, 150, 0, 0, false⟩ = some ⟨150, 0, 0, 0, false⟩ := by decide

/-- R183 and conflict C5: the guard, off the reachable values too. -/
theorem test_ka : pressed .ka ⟨0, 0, 30, 0, false⟩ = some ⟨0, 0, 20, 0, false⟩ ∧
    pressed .ka ⟨0, 0, 9, 0, false⟩ = some ⟨0, 0, 9, 0, false⟩ := by decide

/-- R184 and conflict C2: the ninth press is no no-op. -/
theorem test_kb : pressed .kb ⟨0, 0, 80, 0, false⟩ = some ⟨0, 0, 90, 0, false⟩ ∧
    pressed .kb ⟨0, 0, 90, 0, false⟩ = some ⟨0, 0, 90, 0, false⟩ := by decide

/-- R185 and conflict C3: the ceiling is 170, and a larger angle is left alone. -/
theorem test_kc : pressed .kc ⟨0, 0, 0, 170, false⟩ = some ⟨0, 0, 0, 170, false⟩ ∧
    pressed .kc ⟨0, 0, 0, 250, false⟩ = some ⟨0, 0, 0, 250, false⟩ := by decide

/-- R185: the frame of the first KC. -/
theorem test_kc_frame : pushed .kc ⟨0, 0, 0, 0, false⟩ =
    some #v[0x23, 0x47, 0x41, 0x85, 0x89, 0x52, 0x4F, 0x54, 0x30, 0x31, 0x30, 0, 0, 0, 0, 0] := by decide

/-- S6: the first K0 sends "VON", the second "VOFF". -/
theorem test_k0_frames : pushed .k0 ⟨0, 0, 0, 0, false⟩ =
      some #v[0x24, 0x47, 0x41, 0x85, 0x89, 0x56, 0x4F, 0x4E, 0, 0, 0, 0, 0, 0, 0, 0] ∧
    pushed .k0 ⟨0, 0, 0, 0, true⟩ =
      some #v[0x24, 0x47, 0x41, 0x85, 0x89, 0x56, 0x4F, 0x46, 0x46, 0, 0, 0, 0, 0, 0, 0] := by decide

/-- S4 -/
theorem test_k1_frame : pushed .k1 ⟨0, 150, 0, 0, false⟩ =
    some #v[0x22, 0x47, 0x41, 0x85, 0x89, 0x58, 0x59, 0x5A, 0x30, 0x30, 0x30, 0x31, 0x35, 0x30, 0x30, 0x30] := by decide

/-- R187, the example. -/
theorem test_kunrec : ∀ i ∈ [Instr.kunrecD, .kunrecE, .kunrecF],
    (nextOf (pressKey i (ctrlAt .idle .k1 ⟨75, 75, 10, 10, true⟩))).map
      (fun t => (t.act, t.rendered, t.queue, t.ctrl)) = some (⟨75, 75, 10, 10, true⟩, [], [], .idle) := by decide

/-- R168, R183: KA that changes nothing is still shown, once. -/
theorem test_render_noop : (nextOf (exec .cDisplaying (ctrlAt .displaying .ka ⟨0, 0, 0, 0, false⟩))).map
    (fun t => (t.rendered.length, t.ctrl)) = some (1, .transmitting) := by decide

/-- R166, R167 -/
theorem test_cInit : (nextOf (exec .cInit base)).map (·.ctrl) = some .idle := by decide
theorem test_cIdle_none : exec .cIdle (ctrlAt .idle .k1 ⟨0, 0, 0, 0, false⟩) =
    .next (ctrlAt .idle .k1 ⟨0, 0, 0, 0, false⟩) := rfl

/-- R190: the tenth frame goes in, the eleventh waits, or is dropped. -/
def filled (n : Nat) (expired : Bool) : State :=
  { ctrlAt .transmitting .k0 ⟨0, 0, 0, 0, true⟩ with
    queue := List.replicate n (buildVoff addr), waitExpired := expired, waitLeft := 2 }

theorem test_push_tenth : (nextOf (exec .cTransmitting (filled 9 true))).map (fun t => (t.queue.length, t.ctrl)) =
    some (10, .idle) := by decide
theorem test_push_full :
    (nextOf (exec .cTransmitting (filled 10 false))).map (fun t => (t.queue.length, t.ctrl, t.waitLeft)) =
      some (10, .transmitting, 1) ∧
    (nextOf (exec .cTransmitting (filled 10 true))).map (fun t => (t.queue.length, t.ctrl)) = some (10, .idle) := by decide

/-- R190: the wait cannot last for ever; this one has two steps left, and the third turn drops the frame. -/
theorem test_push_bounded : (List.range 4).map (fun n =>
    (nextOf (Host.Core.run core n { filled 10 false with stimulus := List.replicate 3 (.ctrl none false) })).map
      (fun t => (t.queue.length, t.ctrl))) =
    [some (10, .transmitting), some (10, .transmitting), some (10, .transmitting), some (10, .idle)] := by decide

/-! ### Radio Link steps (V16), the environment (V18) -/

theorem test_lInit : (nextOf (exec .lInit base)).map (·.link) = some .idle := by decide

/-- R212, the example. -/
theorem test_lIdle_join :
    (nextOf (exec .lIdle { linkAt .idle with joinPending := true, queue := [buildVon addr] })).map
      (fun t => (t.joinPending, t.joinInProgress, t.queue, t.link, Memory.read t.active 8)) =
    some (false, true, [buildVon addr], .encode, some 0x4E) := by decide

theorem test_lIdle_frame :
    (nextOf (exec .lIdle { linkAt .idle with queue := [buildVon addr, buildVoff addr] })).map
      (fun t => (t.joinInProgress, t.queue, t.link, Memory.read t.active 7)) =
    some (false, [buildVoff addr], .encode, some 0x4E) := by decide

/-- The JOIN frame in `link.active`. -/
def joinActive : Memory := Memory.writeList [] 0 (buildJoin addr).toList

/-- R213, the example. -/
theorem test_lEncode :
    ((nextOf (exec .lEncode { linkAt .encode with active := joinActive })).map fun t => t.encoded.map (·.2)) =
    some [0x00, 0x2B, 0x71, 0x47, 0x1D, 0x47, 0x5A, 0x8E, 0x93, 0x8E, 0xA5, 0x47, 0xFF, 0x47, 0x93, 0x47, 0xE2, 0x47,
      0, 0, 0, 0, 0, 0, 0, 0, 0, 0, 0, 0, 0, 0] := by decide

/-- R41: a byte that nothing has written. -/
theorem test_lEncode_unwritten : exec .lEncode (linkAt .encode) = .fault (.unwritten .active 0) := rfl

/-- The encoded JOIN frame in `link.encoded`. -/
def joinEncoded : Memory := Memory.writeList [] 0 (encf .a (buildJoin addr)).toList

theorem test_lTransmit :
    (nextOf (exec .lTransmit { linkAt .transmit with encoded := joinEncoded, joinInProgress := true })).map
      (fun t => (t.sent, t.joinInProgress, t.link)) = some ([encf .a (buildJoin addr)], false, .idle) := by decide

/-- R65: two triggers are one. -/
theorem test_joinTrigger : (nextOf (exec .joinTrigger { base with joinPending := true })).map (·.joinPending) =
    some true := by decide

/-- V18 -/
def beforeReset : State :=
  { filled 7 false with act := ⟨150, 75, 40, 120, true⟩, link := .encode, joinPending := true, joinInProgress := true }

theorem test_reset : (nextOf (exec .reset beforeReset)).map (fun t => (t.act, t.queue, t.ctrl)) =
    some (⟨0, 0, 0, 0, false⟩, [], .init) := by decide
theorem test_reset_link :
    (nextOf (exec .reset beforeReset)).map (fun t => (t.link, t.joinPending, t.joinInProgress)) =
    some (.init, false, false) := by decide

/-! ### Witnesses: for each statement with hypotheses, values that meet them -/

theorem witness_DoubleErrorsAreMiscorrected : (0 : Fin 8) < 1 ∧ (6 : Fin 8) < 7 := by decide

theorem witness_CodeIsLinearWithDistanceFour : (0x0 : Nibble) ≠ 0xF ∧ (0x1 : Nibble) ≠ 0x0 ∧ (0x1 : Nibble) ≠ 0xF := by
  decide

/-- Of the codeword of 0: none, bit 0, one of bits 1 to 7, two of them, bit 0 and one of them. -/
theorem witness_SyndromeAndParityTellWhatHappened : ∀ v : Variant,
    (bitDistance 0x00 (encn v 0) ≤ 2 ∧ syndrome v 0x00 = 0 ∧ parMatch 0x00 = true) ∧
    (bitDistance 0x01 (encn v 0) ≤ 2 ∧ syndrome v 0x01 = 0 ∧ parMatch 0x01 = false) ∧
    (bitDistance 0x80 (encn v 0) ≤ 2 ∧ syndrome v 0x80 ≠ 0 ∧ parMatch 0x80 = false) ∧
    (bitDistance 0xC0 (encn v 0) ≤ 2 ∧ syndrome v 0xC0 ≠ 0 ∧ parMatch 0xC0 = true) ∧
    (bitDistance 0x81 (encn v 0) ≤ 2 ∧ syndrome v 0x81 ≠ 0 ∧ parMatch 0x81 = true) := by
  intro v; cases v <;> decide

theorem witness_BuildersAreInjectiveOnReachableValues :
    actInRange ⟨150, 75, 90, 170, true⟩ ∧ actInRange ⟨0, 0, 0, 0, false⟩ := by decide

/-- The frame with one bit flipped in byte 0; two in byte 31 beside that; byte 30 unharmed. -/
theorem witness_FrameErrorsAreCorrectedLaneByLane :
    (∀ j : Fin 32, bitDistance receivedFrame[j] (encf .a (decf .a receivedFrame))[j] ≤ 1) ∧
    bitDistance (receivedFrame.set 31 0xF6)[31] (encf .a (decf .a receivedFrame))[31] = 2 ∧
    (receivedFrame.set 31 0xF6)[31].getLsbD 0 = (encf .a (decf .a receivedFrame))[31].getLsbD 0 ∧
    bitDistance (receivedFrame.set 31 0xF6)[0] (encf .a (decf .a receivedFrame))[0] = 1 ∧
    bitDistance (receivedFrame.set 31 0xF6)[30] (encf .a (decf .a receivedFrame))[30] = 0 := by decide

theorem witness_PureFunctionsNeitherReadNorWriteState :
    pureFunction (.decf receivedFrame) = true ∧ pureFunction (.encn 0) = true ∧ pureFunction .tagVac = true := by decide

theorem witness_KeysAreAcceptedInIdle : ∃ s : State, s.ctrl = .idle := ⟨ctrlAt .idle .k0 default, rfl⟩

theorem witness_KeyLinesOutsideIdleRunTheControllersStep : ∀ p ∈ keyEvents, ∃ s : State,
    s.ctrl ≠ .idle ∧ s.ctrl = .displaying ∧ s.lastKey = p.1 :=
  fun p _ => ⟨ctrlAt .displaying p.1 default, nofun, rfl, rfl⟩

theorem witness_GridKeysSetTheirGridPoint : ∀ k : Key, ∃ s : State,
    s.ctrl = .displaying ∧ s.lastKey = k ∧ s.queue.length < 10 :=
  fun k => ⟨{ filled 9 false with ctrl := .displaying, lastKey := k }, rfl, rfl, by simp [filled]⟩

/-- z at 0, 9, 10 and 255. -/
theorem witness_KaLowersZ : ∀ z ∈ [(0 : Byte), 9, 10, 255], ∃ s : State,
    s.ctrl = .displaying ∧ s.lastKey = .ka ∧ s.act.z = z ∧ s.queue.length < 10 :=
  fun z _ => ⟨ctrlAt .displaying .ka ⟨0, 0, z, 0, false⟩, rfl, rfl, rfl, by simp [ctrlAt, base, State.reset]⟩

/-- z at 0, 80, 81 and 255. -/
theorem witness_KbRaisesZ : ∀ z ∈ [(0 : Byte), 80, 81, 255], ∃ s : State,
    s.ctrl = .displaying ∧ s.lastKey = .kb ∧ s.act.z = z ∧ s.queue.length < 10 :=
  fun z _ => ⟨ctrlAt .displaying .kb ⟨0, 0, z, 0, false⟩, rfl, rfl, rfl, by simp [ctrlAt, base, State.reset]⟩

/-- The angle at 0, 160, 170, 171 and 255. -/
theorem witness_KcRaisesTheAngle : ∀ g ∈ [(0 : Byte), 160, 170, 171, 255], ∃ s : State,
    s.ctrl = .displaying ∧ s.lastKey = .kc ∧ s.act.angle = g ∧ s.queue.length < 10 :=
  fun g _ => ⟨ctrlAt .displaying .kc ⟨0, 0, 0, g, false⟩, rfl, rfl, rfl, by simp [ctrlAt, base, State.reset]⟩

theorem witness_K0TogglesTheActuator : ∃ s : State,
    s.ctrl = .displaying ∧ s.lastKey = .k0 ∧ s.act.on = true ∧ s.queue.length < 10 :=
  ⟨{ filled 9 false with ctrl := .displaying }, by decide⟩

theorem witness_UnrecognisedKeysHaveNoEffect :
    (∃ s : State, s.lastKey = .unrecD ∧ s.ctrl = .displaying) ∧ ∃ s : State, s.lastKey = .unrecF ∧ s.ctrl = .transmitting :=
  ⟨⟨ctrlAt .displaying .unrecD default, rfl, rfl⟩, ⟨ctrlAt .transmitting .unrecF default, rfl, rfl⟩⟩

theorem witness_InitStepsGoToIdle : ∃ s : State, s.ctrl = .init ∧ s.link = .init := ⟨State.reset, rfl, rfl⟩

theorem witness_CIdlePollsTheKeypad :
    (∃ s : State, s.ctrl = .idle ∧ s.keyAnswer = none) ∧ ∃ s : State, s.ctrl = .idle ∧ s.keyAnswer = some .unrecF :=
  ⟨⟨ctrlAt .idle .k0 default, rfl, rfl⟩, ⟨{ ctrlAt .idle .k0 default with keyAnswer := some .unrecF }, rfl, rfl⟩⟩

theorem witness_CDisplayingRendersOnceAndGoesOn :
    (∃ s : State, s.ctrl = .displaying ∧ s.lastKey = .kc) ∧ ∃ s : State, s.ctrl = .displaying ∧ s.lastKey = .unrecE :=
  ⟨⟨ctrlAt .displaying .kc default, rfl, rfl⟩, ⟨ctrlAt .displaying .unrecE default, rfl, rfl⟩⟩

/-- The queue empty, and with nine frames, for each of the three kinds of key. -/
theorem witness_CTransmittingPushesTheFrame : ∀ k ∈ [Key.k1, .kb, .kc, .k0], ∀ n ∈ [0, 9], ∃ s : State,
    s.ctrl = .transmitting ∧ s.queue.length < 10 ∧ s.queue.length = n ∧ s.lastKey = k := by
  intro k _ n hn
  refine ⟨{ filled n false with lastKey := k }, rfl, ?_, by simp [filled], rfl⟩
  simp only [List.mem_cons, List.not_mem_nil, or_false] at hn
  rcases hn with rfl | rfl <;> simp [filled]

/-- The wait expired or not, its bound reached or not, and turns with and without a key. -/
theorem witness_FullQueueWaitsOrDrops : ∀ (e : Bool) (n : Nat), ∃ (s : State) (turns : List Stimulus),
    s.ctrl = .transmitting ∧ s.queue.length = 10 ∧ s.lastKey ∉ [Key.unrecD, .unrecE, .unrecF] ∧ s.waitExpired = e ∧
    s.waitLeft = n ∧ (∀ c ∈ turns, ∃ k e, c = .ctrl k e) ∧ turns.length = n + 1 :=
  fun e n => ⟨{ filled 10 e with waitLeft := n }, .ctrl (some .kb) true :: List.replicate n (.ctrl none false),
    rfl, rfl, by simp [filled, ctrlAt], rfl, rfl, by simp, by simp⟩

theorem witness_KeyPressRunsToItsFrame : ∃ (s : State) (f : Frame), s.ctrl = .idle ∧ s.queue.length < 10 ∧
    messageFor s.senderAddr (keyEffect .kb s.act) .kb = some f :=
  ⟨{ filled 9 false with ctrl := .idle }, _, rfl, by decide, rfl⟩

theorem witness_TwoK0PressesRestoreTheActuator : ∃ s : State, s.ctrl = .idle ∧ s.queue.length < 9 :=
  ⟨{ filled 8 false with ctrl := .idle }, rfl, by decide⟩

theorem witness_RepeatedKeysStopAtTheirCeilings : ∃ a : Act, a.z = 0 ∧ a.angle = 0 := ⟨default, rfl, rfl⟩

/-- In INIT the six other rows are not selected; in TRANSMIT and TRANSMITTING the two INIT rows. -/
theorem witness_RowsNotSelectedAreRefused :
    (∃ s : State, s.ctrl ≠ .idle ∧ s.ctrl ≠ .displaying ∧ s.ctrl ≠ .transmitting ∧
      s.link ≠ .idle ∧ s.link ≠ .encode ∧ s.link ≠ .transmit) ∧ ∃ s : State, s.ctrl ≠ .init ∧ s.link ≠ .init :=
  ⟨⟨State.reset, by decide⟩, ⟨{ filled 0 false with link := .transmit }, by decide⟩⟩

theorem witness_LIdleTakesTheTriggerThenTheQueue :
    (∃ s : State, s.link = .idle ∧ s.joinPending = true) ∧
    (∃ (s : State) (f : Frame) (q : List Frame), s.link = .idle ∧ s.joinPending = false ∧ s.queue = f :: q) ∧
    ∃ s : State, s.link = .idle ∧ s.joinPending = false ∧ s.queue = [] :=
  ⟨⟨{ linkAt .idle with joinPending := true }, rfl, rfl⟩,
   ⟨{ linkAt .idle with queue := [buildVon addr] }, _, _, rfl, rfl, rfl⟩, ⟨linkAt .idle, rfl, rfl, rfl⟩⟩

theorem witness_LEncodeEncodesTheActiveFrame : ∃ (s : State) (u : Frame),
    s.link = .encode ∧ ∀ a : Fin 16, Memory.read s.active a.val = some u[a] :=
  ⟨{ linkAt .encode with active := joinActive }, buildJoin addr, rfl, by decide⟩

theorem witness_LTransmitSendsTheEncodedFrame : ∃ (s : State) (e : EncFrame),
    s.link = .transmit ∧ ∀ a : Fin 32, Memory.read s.encoded a.val = some e[a] :=
  ⟨{ linkAt .transmit with encoded := joinEncoded }, encf .a (buildJoin addr), rfl, by decide⟩

/-- Nothing written; all but the last byte written. -/
theorem witness_UnwrittenBuffersFault :
    (∃ s : State, s.link = .encode ∧ Memory.read s.active (0 : Fin 16) = none) ∧
    (∃ s : State, s.link = .encode ∧ Memory.read s.active (15 : Fin 16) = none ∧ Memory.read s.active 14 = some 0) ∧
    ∃ s : State, s.link = .transmit ∧ Memory.read s.encoded (31 : Fin 32) = none :=
  ⟨⟨linkAt .encode, rfl, rfl⟩, ⟨{ linkAt .encode with active := joinActive.take 15 }, rfl, by decide, by decide⟩,
   ⟨{ linkAt .transmit with encoded := joinEncoded.take 31 }, rfl, by decide⟩⟩

/-- Ten frames drained, and none. -/
theorem witness_QueueDrainsInThreeStepsPerFrame : ∀ k ∈ [0, 10], ∃ s : State,
    s.link = .idle ∧ s.joinPending = false ∧ k ≤ s.queue.length := by
  intro k hk
  refine ⟨{ filled 10 false with link := .idle }, rfl, rfl, ?_⟩
  simp only [List.mem_cons, List.not_mem_nil, or_false] at hk
  rcases hk with rfl | rfl <;> decide

theorem witness_JoinTriggerSetsJoinPending : ∃ s : State, s.joinPending = true := ⟨{ base with joinPending := true }, rfl⟩

/-- A state in the middle of a run: a JOIN frame accepted, a frame queued, a key about to be shown. -/
def midRun : State :=
  { ctrlAt .displaying .k5 ⟨75, 150, 90, 170, true⟩ with
    link := .encode, active := joinActive, joinInProgress := true, queue := [buildVon addr], stimulus := [.link] }

theorem midRun_coreInv : CoreInv midRun := by
  constructor
  case act => decide
  case queueLength => decide
  case queueFrames =>
    intro f hf
    obtain rfl : f = buildVon addr := by simpa [midRun] using hf
    exact .inr (.inr (.inl rfl))
  case activeWf => decide
  case encodedWf => exact List.Pairwise.nil
  case activeSize =>
    intro a ha
    show Memory.read (Memory.writeList [] 0 (buildJoin addr).toList) a = none
    rw [Memory.read_writeVector, dif_neg (by omega)]
    rfl
  case encodedSize => intro a _; rfl
  case encode =>
    intro _
    refine ⟨buildJoin addr, fun a => ?_, .inl ⟨rfl, rfl⟩⟩
    show Memory.read (Memory.writeList [] 0 (buildJoin addr).toList) a = _
    rw [Memory.read_writeVector]
    by_cases h : a < 16 <;> simp [h, Memory.read]
  case transmit => intro h; cases h
  case mark => intro h; rcases h with h | h <;> cases h
  case sentFrames => intro e he; cases he

theorem witness_EveryStepKeepsInv : CoreInv midRun ∧ (nextOf (step midRun)).isSome = true :=
  ⟨midRun_coreInv, by decide⟩

theorem witness_EveryAgentStepCompletes : CoreInv midRun ∧ ∀ w : OpWord, (takeStimulus midRun).1 ≠ .use w :=
  ⟨midRun_coreInv, nofun⟩

theorem witness_PushedFramesAreSentInOrder : Instr.cDisplaying ≠ .reset ∧ CoreInv midRun ∧
    ∃ t, exec .cDisplaying midRun = .next t := ⟨nofun, midRun_coreInv, _, rfl⟩

theorem witness_EachAgentWritesItsOwnStateOnly :
    (Instr.cDisplaying ∈ controllerTurns ∧ ∃ t, exec .cDisplaying midRun = .next t) ∧
    (Instr.lEncode ∈ radioLinkTurns ∧ (nextOf (exec .lEncode midRun)).isSome = true) :=
  ⟨⟨by decide, _, rfl⟩, by decide, by decide⟩

theorem witness_ActIsWrittenByDisplayingOnly :
    (Instr.cDisplaying ≠ .reset ∧ ∃ t, exec .cDisplaying midRun = .next t ∧ t.act ≠ midRun.act) ∧
    (Instr.kc ≠ .reset ∧ ∃ t, exec .kc (ctrlAt .idle .k0 default) = .next t ∧ t.lastKey ≠ .k0) :=
  ⟨⟨nofun, _, rfl, by decide⟩, nofun, _, rfl, nofun⟩

theorem witness_AgentsDoNotReadEachOthersState : Instr.lTransmit ∈ radioLinkTurns ∧ Instr.kunrecF ∈ controllerTurns := by
  decide

/-- One state for each kind of choice, and one with none placed. -/
theorem witness_StepRunsTheDecodedInstruction :
    (decode ⟨.decodeByte, [0x3B, 0x2B]⟩ = .ok (.decb 0x3B 0x2B) ∧ Instr.wellFormed (.decb 0x3B 0x2B) = true) ∧
    ∀ st : Stimulus, (∃ s : State, s.stimulus = [st]) ∧ ∃ s : State, s.stimulus = [] :=
  ⟨by decide, fun st => ⟨⟨{ base with stimulus := [st] }, rfl⟩, ⟨base, rfl⟩⟩⟩

theorem witness_DecodeInvertsEncode : Instr.wellFormed (.buildXyz addr 999 999 99) = true ∧
    Instr.wellFormed (.buildXyz addr 0 0 0) = true ∧ Instr.wellFormed (.buildRot addr 255) = true := by decide

theorem witness_WordsDecodeToTheirOperations :
    (∃ f : Frame, f[0] = 0x22 ∧ f[5] = 0x58 ∧ f[6] = 0x59 ∧ f[7] = 0x5A ∧
      ∀ k : Fin 8, f[8 + k.val].extractLsb' 4 4 = 0x3) ∧
    ∃ f : Frame, f[0] = 0x23 ∧ f[5] = 0x52 ∧ f[6] = 0x4F ∧ f[7] = 0x54 ∧
      (∀ k : Fin 3, f[8 + k.val].extractLsb' 4 4 = 0x3) ∧ ∀ k : Fin 5, f[11 + k.val] = 0x00 :=
  ⟨⟨#v[0x22, 0, 0, 0, 0, 0x58, 0x59, 0x5A, 0x30, 0x39, 0x3A, 0x3F, 0x30, 0x30, 0x30, 0x3F], by decide⟩,
   ⟨#v[0x23, 0, 0, 0, 0, 0x52, 0x4F, 0x54, 0x39, 0x39, 0x3F, 0, 0, 0, 0, 0], by decide⟩⟩

/-- No turn, and three turns of both machines. -/
theorem witness_QuiescentStatesStay :
    QuiescentFor 0 { base with ctrl := .idle, link := .idle } ∧
    QuiescentFor 3 { base with ctrl := .idle, link := .idle, stimulus := [.link, .ctrl none true, .link] } :=
  ⟨⟨rfl, rfl, rfl, rfl, rfl, nofun⟩, ⟨rfl, rfl, rfl, rfl, rfl, by decide⟩⟩

end Sys2Proof.Tests
end

section
/-! The reset values, and the separation of the two agents (10_state.md R40, R42; 60_exceptions.md R249). -/

namespace Sys2Proof.Machine

open Sys2Proof

/-! ### Reset (R40, R270) -/

/-- The event `RESET` always has a next state (R270). -/
theorem exec_reset (s : State) : exec .reset s = .next (resetElements s) := rfl

@[simp] theorem resetElements_act (s : State) : (resetElements s).act = State.reset.act := rfl
@[simp] theorem resetElements_ctrl (s : State) : (resetElements s).ctrl = State.reset.ctrl := rfl
@[simp] theorem resetElements_queue (s : State) : (resetElements s).queue = State.reset.queue := rfl
@[simp] theorem resetElements_link (s : State) : (resetElements s).link = State.reset.link := rfl
@[simp] theorem resetElements_joinPending (s : State) :
    (resetElements s).joinPending = State.reset.joinPending := rfl
@[simp] theorem resetElements_joinInProgress (s : State) :
    (resetElements s).joinInProgress = State.reset.joinInProgress := rfl

/-- The values R40 states for the initial state. -/
theorem State.reset_stated :
    State.reset.act = ⟨0, 0, 0, 0, false⟩ ∧ State.reset.ctrl = .init ∧ State.reset.link = .init ∧
      State.reset.queue = [] ∧ State.reset.joinPending = false ∧ State.reset.joinInProgress = false :=
  ⟨rfl, rfl, rfl, rfl, rfl, rfl⟩

/-- Settles O49: the event puts the elements at the values of the initial state, and those are the stated ones. -/
theorem resetLeavesTheStatedValues : Obligations.ResetLeavesTheStatedValues := by
  unfold Obligations.ResetLeavesTheStatedValues
  obtain ⟨hact, hctrl, hlink, hqueue, hpending, hprogress⟩ := State.reset_stated
  constructor
  · simp [hact, hctrl, hlink, hqueue, hpending, hprogress]
  · intro s
    refine ⟨resetElements s, exec_reset s, ?_⟩
    simp [hact, hctrl, hlink, hqueue, hpending, hprogress]

/-! ### What a Controller turn can do -/

/-- A key event presented as an operation is the key's line (R97). -/
theorem exec_keyEvent {p : Key × Instr} (hp : p ∈ keyEvents) (s : State) : exec p.2 s = keyLine p.1 s := by
  revert p
  simp [keyEvents, exec, execK0, execK1, execK2, execK3, execK4, execK5, execK6, execK7, execK8, execK9, execKA, execKB,
    execKC, execKunrecD, execKunrecE, execKunrecF]

/-- A key's line is the Controller's step, except in IDLE, where it accepts the key (R97). -/
theorem keyLine_cases {k : Key} {s t : State} (h : keyLine k s = .next t) :
    controllerStep s = .next t ∨ (s.ctrl = .idle ∧ t = (s.setKeyAnswer none).acceptKey k) := by
  by_cases hc : s.ctrl = .idle
  · rw [keyLine_idle hc] at h
    cases h
    exact .inr ⟨hc, rfl⟩
  · exact .inl (keyLine_other hc k ▸ h)

/-- A Controller turn with a next state is the Controller's step, or accepts a key in IDLE. -/
theorem exec_controllerTurn_cases {i : Instr} {s t : State} (hi : i ∈ controllerTurns) (h : exec i s = .next t) :
    controllerStep s = .next t ∨ ∃ k, s.ctrl = .idle ∧ t = (s.setKeyAnswer none).acceptKey k := by
  rcases List.mem_append.mp hi with hrow | hkey
  · exact .inl (execCRow_next (by simpa using hrow) h)
  · obtain ⟨p, hp, rfl⟩ := List.mem_map.mp hkey
    rw [exec_keyEvent hp] at h
    exact (keyLine_cases h).imp_right fun hk => ⟨p.1, hk⟩

/-! ### Each agent's own side (R42, R249) -/

/-- What no Controller turn may write: the Radio Link's elements, the record of sends and the address. -/
def State.linkSide (s : State) : LinkState × Memory × Memory × Bool × Bool × List EncFrame × Address :=
  (s.link, s.active, s.encoded, s.joinPending, s.joinInProgress, s.sent, s.senderAddr)

/-- What no Radio Link turn may write: the Controller's elements, the key answer, the record of display commands and the
address. -/
def State.ctrlSide (s : State) : Act × CtrlState × Key × Option Key × List DisplayCommand × Address :=
  (s.act, s.ctrl, s.lastKey, s.keyAnswer, s.rendered, s.senderAddr)

theorem State.linkSide_eq_iff {s t : State} : t.linkSide = s.linkSide ↔
    t.link = s.link ∧ t.active = s.active ∧ t.encoded = s.encoded ∧ t.joinPending = s.joinPending ∧
      t.joinInProgress = s.joinInProgress ∧ t.sent = s.sent ∧ t.senderAddr = s.senderAddr := by
  simp [State.linkSide]

theorem State.ctrlSide_eq_iff {s t : State} : t.ctrlSide = s.ctrlSide ↔
    t.act = s.act ∧ t.ctrl = s.ctrl ∧ t.lastKey = s.lastKey ∧ t.keyAnswer = s.keyAnswer ∧
      t.rendered = s.rendered ∧ t.senderAddr = s.senderAddr := by
  simp [State.ctrlSide]

/-- Waiting for room, or dropping the frame, writes nothing of the Radio Link's and leaves the queue alone (R190). -/
theorem State.waitOrDrop_linkSide_queue (s : State) :
    s.waitOrDrop.linkSide = s.linkSide ∧ s.waitOrDrop.queue = s.queue := by
  rcases s.waitOrDrop_cases with ⟨n, _, _, e⟩ | ⟨_, e⟩ <;> rw [e] <;> simp [State.linkSide]

/-- The Controller's step writes nothing of the Radio Link's and at most appends one frame to the queue (R249). -/
theorem controllerStep_linkSide_queue {s t : State} (h : controllerStep s = .next t) :
    t.linkSide = s.linkSide ∧ (t.queue = s.queue ∨ ∃ f, t.queue = s.queue ++ [f]) := by
  rcases controllerStep_cases h with ⟨_, rfl⟩ | ⟨_, _, rfl⟩ | ⟨k, _, _, rfl⟩ | ⟨_, _, rfl⟩ | ⟨_, _, rfl⟩ |
    ⟨f, _, _, _, rfl⟩ | ⟨f, _, _, _, rfl⟩ | ⟨_, _, rfl⟩
  -- only the push with room writes the queue; a full queue waits or drops
  case inr.inr.inr.inr.inr.inl => exact ⟨by simp [State.linkSide], .inr ⟨f, rfl⟩⟩
  case inr.inr.inr.inr.inr.inr.inl => exact s.waitOrDrop_linkSide_queue.imp_right .inl
  all_goals simp [State.linkSide]

/-- A Controller turn writes nothing of the Radio Link's and at most appends one frame to the queue (R249). -/
theorem exec_controllerTurn_linkSide_queue {i : Instr} {s t : State} (hi : i ∈ controllerTurns)
    (h : exec i s = .next t) : t.linkSide = s.linkSide ∧ (t.queue = s.queue ∨ ∃ f, t.queue = s.queue ++ [f]) := by
  rcases exec_controllerTurn_cases hi h with hstep | ⟨k, _, rfl⟩
  · exact controllerStep_linkSide_queue hstep
  · simp [State.linkSide]

/-- A Radio Link turn writes nothing of the Controller's and at most removes the head of the queue (R249). -/
theorem exec_radioLinkTurn_ctrlSide_queue {i : Instr} {s t : State} (hi : i ∈ radioLinkTurns)
    (h : exec i s = .next t) : t.ctrlSide = s.ctrlSide ∧ (t.queue = s.queue ∨ ∃ f, s.queue = f :: t.queue) := by
  rcases execLRow_cases (by simpa [radioLinkTurns] using hi) h with ⟨_, rfl⟩ | ⟨_, _, rfl⟩ | ⟨f, q, _, _, hq, rfl⟩ |
    ⟨_, _, _, rfl⟩ | ⟨u, _, _, rfl⟩ | ⟨e, _, _, rfl⟩
  -- only taking a queued frame writes the queue
  case inr.inr.inl => exact ⟨by simp [State.ctrlSide], .inr ⟨f, hq⟩⟩
  all_goals simp [State.ctrlSide]

/-- Settles O54, from what each agent's turn can do. -/
theorem eachAgentWritesItsOwnStateOnly : Obligations.EachAgentWritesItsOwnStateOnly := by
  unfold Obligations.EachAgentWritesItsOwnStateOnly
  constructor
  · intro i hi s t h
    obtain ⟨hside, hqueue⟩ := exec_controllerTurn_linkSide_queue hi h
    obtain ⟨hlink, hactive, hencoded, hpending, hprogress, hsent, haddr⟩ := State.linkSide_eq_iff.mp hside
    exact ⟨hlink, hactive, hencoded, hpending, hprogress, hsent, haddr, hqueue⟩
  · intro i hi s t h
    obtain ⟨hside, hqueue⟩ := exec_radioLinkTurn_ctrlSide_queue hi h
    obtain ⟨hact, hctrl, hkey, hanswer, hrendered, haddr⟩ := State.ctrlSide_eq_iff.mp hside
    exact ⟨hact, hctrl, hkey, hanswer, hrendered, haddr, hqueue⟩

end Sys2Proof.Machine
end

section
/-! The frames pushed are sent in order (20_memory.md R57, R61), and the join trigger (20_memory.md R65). -/

namespace Sys2Proof.Machine

open Sys2Proof

/-! ### The operations by kind -/

/-- The five kinds of operation: the pure functions, the turns of the two agents, the two events. -/
theorem instr_kind (i : Instr) :
    pureFunction i = true ∨ i ∈ controllerTurns ∨ i ∈ radioLinkTurns ∨ i = .joinTrigger ∨ i = .reset := by
  cases i <;> simp [pureFunction, controllerTurns, keyEvents, radioLinkTurns]

/-- A pure function gives its outputs and changes nothing else (R100, R141, R150). -/
theorem exec_pureFunction {i : Instr} (hi : pureFunction i = true) (s : State) :
    ∃ r, exec i s = .next (s.setResult r) := by
  cases i
  case k0 | k1 | k2 | k3 | k4 | k5 | k6 | k7 | k8 | k9 | ka | kb | kc | kunrecD | kunrecE | kunrecF | cInit | cIdle |
    cDisplaying | cTransmitting | lInit | lIdle | lEncode | lTransmit | joinTrigger | reset => cases hi
  all_goals exact ⟨_, rfl⟩

/-- The whole effect of the event `JOIN_TRIGGER` (R251). -/
theorem exec_joinTrigger (s : State) : exec .joinTrigger s = .next (s.setJoinPending true) := rfl

/-- Settles O47: a second trigger writes the value that `join_pending` already has. -/
theorem joinTriggerSetsJoinPending : Obligations.JoinTriggerSetsJoinPending := by
  unfold Obligations.JoinTriggerSetsJoinPending
  intro s
  refine ⟨exec_joinTrigger s, fun hpending => ?_⟩
  rw [exec_joinTrigger, State.setJoinPending_self hpending]

/-! ### Encoded frames tell frames apart -/

/-- Different nibbles have different codewords (R104). -/
theorem encn_injective (v : Variant) : Function.Injective (encn v) := by
  cases v <;> decide

/-- A byte is determined by its two nibbles (R84, R85). -/
theorem byte_eq_of_nibbles {b c : Byte} (hlow : lowNibble b = lowNibble c) (hhigh : highNibble b = highNibble c) :
    b = c := by
  rw [← joinNibbles_high_low b, ← joinNibbles_high_low c, hlow, hhigh]

/-- Different frames have different encodings (R151). -/
theorem encf_injective (v : Variant) : Function.Injective (encf v) := by
  intro u w h
  ext1 i hi
  apply byte_eq_of_nibbles
  · apply encn_injective v
    rw [← encf_even v u i hi, ← encf_even v w i hi, h]
  · apply encn_injective v
    rw [← encf_odd v u i hi, ← encf_odd v w i hi, h]

/-- The tags of the frames the Controller can push (R39, R73). -/
theorem ControllerFrame.tag {a : Address} {f : Frame} (hf : ControllerFrame a f) :
    f[0] = tagXyz ∨ f[0] = tagRot ∨ f[0] = tagVac := by
  rcases hf with ⟨x, y, z, rfl⟩ | ⟨angle, rfl⟩ | rfl | rfl
  · exact .inl rfl
  · exact .inr (.inl rfl)
  · exact .inr (.inr rfl)
  · exact .inr (.inr rfl)

/-- No frame of the Controller is a JOIN frame: their tags differ (R39, R73). -/
theorem ControllerFrame.ne_buildJoin {a : Address} {f : Frame} (hf : ControllerFrame a f) : f ≠ buildJoin a := by
  rintro rfl
  have htag : tagJoin = tagXyz ∨ tagJoin = tagRot ∨ tagJoin = tagVac := hf.tag
  exact absurd htag (by decide)

/-! ### Reading back a whole array -/

/-- A read of `link.active` after a whole frame was written to it. -/
theorem State.memRead_active_written {s : State} {m : Memory} {f : Frame}
    (h : s.active = Memory.writeList m 0 f.toList) : s.memRead .active 0 16 = .ok f := by
  rw [State.memRead_active_ok]
  intro i hi
  rw [h, Memory.read_writeVector, dif_pos hi]

/-- A read of `link.encoded` after a whole frame was written to it. -/
theorem State.memRead_encoded_written {s : State} {m : Memory} {e : EncFrame}
    (h : s.encoded = Memory.writeList m 0 e.toList) : s.memRead .encoded 0 32 = .ok e := by
  rw [State.memRead_encoded_ok]
  intro i hi
  rw [h, Memory.read_writeVector, dif_pos hi]

/-- A read of `link.encoded` answers what the array holds. -/
theorem State.memRead_encoded_of_memHolds {s : State} {e : EncFrame} (h : MemHolds s.encoded e) :
    s.memRead .encoded 0 32 = .ok e := by
  rw [State.memRead_encoded_ok]
  intro i hi
  rw [h i, Vector.getElem?_eq_getElem hi]

/-! ### The frame in flight -/

theorem inFlight_joining {s : State} (h : s.joinInProgress = true) : inFlight s = [] := by
  simp [inFlight, h]

theorem inFlight_notAccepted {s : State} (h : s.link = .init ∨ s.link = .idle) : inFlight s = [] := by
  rcases h with h | h <;> simp [inFlight, h]

theorem inFlight_encode {s : State} {u : Frame} (hj : s.joinInProgress = false) (hl : s.link = .encode)
    (hu : s.memRead .active 0 16 = .ok u) : inFlight s = [encf Config.hammingVariant u] := by
  simp [inFlight, hj, hl, hu]

theorem inFlight_transmit {s : State} {e : EncFrame} (hj : s.joinInProgress = false) (hl : s.link = .transmit)
    (he : s.memRead .encoded 0 32 = .ok e) : inFlight s = [e] := by
  simp [inFlight, hj, hl, he]

/-- The frame in flight is read from the Radio Link's elements alone. -/
theorem inFlight_of_linkSide {s t : State} (h : t.linkSide = s.linkSide) : inFlight t = inFlight s := by
  obtain ⟨hlink, hactive, hencoded, -, hprogress, -, -⟩ := State.linkSide_eq_iff.mp h
  simp only [inFlight, State.memRead_active, State.memRead_encoded, hlink, hactive, hencoded, hprogress]

/-! ### The history of pushed frames -/

/-- The history is read from the record of sends, the address, the frame in flight and the queue. -/
theorem pushedHistory_congr {s t : State} (hsent : t.sent = s.sent) (haddr : t.senderAddr = s.senderAddr)
    (hflight : inFlight t = inFlight s) (hqueue : t.queue = s.queue) : pushedHistory t = pushedHistory s := by
  simp only [pushedHistory, hsent, haddr, hflight, hqueue]

/-- What leaves the Radio Link's side alone extends the history by what it appends to the queue. -/
theorem pushedHistory_of_linkSide {s t : State} {es : List EncFrame} (h : t.linkSide = s.linkSide)
    (hq : t.queue.map (encf Config.hammingVariant) = s.queue.map (encf Config.hammingVariant) ++ es) :
    pushedHistory t = pushedHistory s ++ es := by
  obtain ⟨-, -, -, -, -, hsent, haddr⟩ := State.linkSide_eq_iff.mp h
  simp only [pushedHistory, inFlight_of_linkSide h, hsent, haddr, hq, List.append_assoc]

/-- Of a `Send`, the history keeps the frame of the Controller and leaves the JOIN frame out (R57, R218). -/
theorem sent_filter_of_accepted {s : State} {f : Frame} (hf : AcceptedFrame s f) :
    [encf Config.hammingVariant f].filter
        (fun e => e != encf Config.hammingVariant (buildJoin s.senderAddr)) =
      if s.joinInProgress then [] else [encf Config.hammingVariant f] := by
  rcases hf with ⟨hj, rfl⟩ | ⟨hj, hf⟩
  · simp [hj]
  · simp [hj, (encf_injective Config.hammingVariant).eq_iff, hf.ne_buildJoin]

/-- Taking the head of the queue brings its encoding into flight (R212). -/
theorem pushedHistory_acceptFrame {s : State} {f : Frame} {q : List Frame} (hj : s.joinInProgress = false)
    (hl : s.link = .idle) (hq : s.queue = f :: q) :
    pushedHistory (((s.setQueue q).setActive (Memory.writeList s.active 0 f.toList)).setLink .encode) =
      pushedHistory s := by
  have hafter := inFlight_encode
    (s := ((s.setQueue q).setActive (Memory.writeList s.active 0 f.toList)).setLink .encode) hj rfl
    (State.memRead_active_written rfl)
  simp [pushedHistory, hafter, inFlight_notAccepted (.inr hl), hq]

/-- Sending puts the frame in flight at the end of the record of sends; a JOIN frame is left out there as well (R214). -/
theorem pushedHistory_send {s : State} {e : EncFrame} (hinv : CoreInv s) (hl : s.link = .transmit)
    (he : s.memRead .encoded 0 32 = .ok e) :
    pushedHistory (((s.setSent (s.sent ++ [e])).setJoinInProgress false).setLink .idle) = pushedHistory s := by
  obtain ⟨f, hholds, hf⟩ := hinv.transmit hl
  obtain rfl : encf Config.hammingVariant f = e :=
    Except.ok.inj ((State.memRead_encoded_of_memHolds hholds).symm.trans he)
  have hbefore : inFlight s = if s.joinInProgress then [] else [encf Config.hammingVariant f] := by
    cases hj : s.joinInProgress with
    | true => exact inFlight_joining hj
    | false => exact inFlight_transmit hj hl he
  have hafter := inFlight_notAccepted
    (s := ((s.setSent (s.sent ++ [encf Config.hammingVariant f])).setJoinInProgress false).setLink .idle) (.inr rfl)
  simp only [pushedHistory, hbefore, hafter, State.setLink_sent, State.setJoinInProgress_sent, State.setSent_sent,
    State.setLink_senderAddr, State.setJoinInProgress_senderAddr, State.setSent_senderAddr, State.setLink_queue,
    State.setJoinInProgress_queue, State.setSent_queue, List.filter_append, sent_filter_of_accepted hf, List.append_nil]

/-- A Radio Link turn moves frames along the history and changes none of it: the queue's head comes into flight, the frame
in flight is encoded, then sent (R57, R212 to R214). -/
theorem pushedHistory_radioLinkTurn {i : Instr} {s t : State} (hi : i ∈ radioLinkTurns) (hinv : CoreInv s)
    (h : exec i s = .next t) : pushedHistory t = pushedHistory s := by
  rcases execLRow_cases (by simpa [radioLinkTurns] using hi) h with ⟨hl, rfl⟩ | ⟨hl, _, rfl⟩ | ⟨f, q, hl, _, hq, rfl⟩ |
    ⟨_, _, _, rfl⟩ | ⟨u, hl, hu, rfl⟩ | ⟨e, hl, he, rfl⟩
  · have hbefore := inFlight_notAccepted (.inl hl)
    have hafter := inFlight_notAccepted (s := s.setLink .idle) (.inr rfl)
    exact pushedHistory_congr rfl rfl (hafter.trans hbefore.symm) rfl
  · -- a JOIN frame is accepted: the history does not count it
    have hbefore := inFlight_notAccepted (.inr hl)
    exact pushedHistory_congr (by simp) (by simp) ((inFlight_joining (by simp)).trans hbefore.symm) (by simp)
  · exact pushedHistory_acceptFrame (hinv.mark (.inr hl)) hl hq
  · rfl
  · -- the frame in flight is encoded: what was counted by its encoding is now that encoding
    refine pushedHistory_congr (by simp) (by simp) ?_ (by simp)
    cases hj : s.joinInProgress with
    | true => rw [inFlight_joining hj, inFlight_joining (by simpa using hj)]
    | false =>
      rw [inFlight_encode hj hl hu]
      exact inFlight_transmit (by simpa using hj) (by simp) (State.memRead_encoded_written (m := s.encoded) (by simp))
  · exact pushedHistory_send hinv hl he

theorem framePushed_of_not_controllerTurn {i : Instr} (hi : i ∉ controllerTurns) (s : State) : framePushed i s = [] :=
  if_neg fun h => hi h.1

theorem framePushed_of_not_transmitting (i : Instr) {s : State} (h : s.ctrl ≠ .transmitting) : framePushed i s = [] :=
  if_neg fun hpush => h hpush.2.1

theorem framePushed_full (i : Instr) {s : State} (h : 10 ≤ s.queue.length) : framePushed i s = [] :=
  if_neg fun hpush => absurd hpush.2.2 (by omega)

theorem framePushed_unrecognised (i : Instr) {s : State} (h : messageFor s.senderAddr s.act s.lastKey = none) :
    framePushed i s = [] := by
  simp [framePushed, h]

theorem framePushed_room {i : Instr} {s : State} {f : Frame} (hi : i ∈ controllerTurns) (hc : s.ctrl = .transmitting)
    (hf : messageFor s.senderAddr s.act s.lastKey = some f) (hq : s.queue.length < 10) :
    framePushed i s = [encf Config.hammingVariant f] := by
  simp [framePushed, hi, hc, hf, hq]

/-- A Controller turn appends to the queue exactly the frame it pushes (R189, R190). -/
theorem queue_map_controllerTurn {i : Instr} {s t : State} (hi : i ∈ controllerTurns) (h : exec i s = .next t) :
    t.queue.map (encf Config.hammingVariant) = s.queue.map (encf Config.hammingVariant) ++ framePushed i s := by
  rcases exec_controllerTurn_cases hi h with hstep | ⟨k, hc, rfl⟩
  · rcases controllerStep_cases hstep with ⟨hc, rfl⟩ | ⟨hc, _, rfl⟩ | ⟨k, hc, _, rfl⟩ | ⟨hc, _, rfl⟩ | ⟨hc, _, rfl⟩ |
      ⟨f, hc, hf, hq, rfl⟩ | ⟨f, hc, _, hq, rfl⟩ | ⟨hc, hf, rfl⟩
    -- the three ends of TRANSMITTING: the frame goes in, the queue is full, the key is unrecognised
    case inr.inr.inr.inr.inr.inl => simp [framePushed_room hi hc hf hq]
    case inr.inr.inr.inr.inr.inr.inl => simp [framePushed_full i hq, s.waitOrDrop_linkSide_queue.2]
    case inr.inr.inr.inr.inr.inr.inr => simp [framePushed_unrecognised i hf]
    all_goals simp [framePushed_of_not_transmitting i (ne_of_eq_of_ne hc (by decide))]
  · simp [framePushed_of_not_transmitting i (ne_of_eq_of_ne hc (by decide))]

theorem not_controllerTurn_of_pureFunction {i : Instr} (hi : pureFunction i = true) : i ∉ controllerTurns := by
  have hturns : ∀ j ∈ controllerTurns, pureFunction j = false := by decide
  intro hmem
  simp [hturns i hmem] at hi

theorem not_controllerTurn_of_radioLinkTurn {i : Instr} (hi : i ∈ radioLinkTurns) : i ∉ controllerTurns := by
  revert i
  decide

/-- Settles O53, by the kind of the operation: a pure function and the join trigger leave the history alone, a Controller
turn appends the frame it pushes, and a Radio Link turn moves frames along it. -/
theorem pushedFramesAreSentInOrder : Obligations.PushedFramesAreSentInOrder := by
  unfold Obligations.PushedFramesAreSentInOrder
  intro i s t hreset hinv h
  rcases instr_kind i with hi | hi | hi | rfl | rfl
  · obtain ⟨r, hr⟩ := exec_pureFunction hi s
    obtain rfl : s.setResult r = t := Host.Outcome.next.inj (hr.symm.trans h)
    rw [framePushed_of_not_controllerTurn (not_controllerTurn_of_pureFunction hi), List.append_nil]
    rfl
  · exact pushedHistory_of_linkSide (exec_controllerTurn_linkSide_queue hi h).1 (queue_map_controllerTurn hi h)
  · rw [framePushed_of_not_controllerTurn (not_controllerTurn_of_radioLinkTurn hi), List.append_nil]
    exact pushedHistory_radioLinkTurn hi hinv h
  · obtain rfl : s.setJoinPending true = t := Host.Outcome.next.inj ((exec_joinTrigger s).symm.trans h)
    rw [framePushed_of_not_controllerTurn (by decide), List.append_nil]
    rfl
  · exact absurd rfl hreset

end Sys2Proof.Machine
end

section
/-! Neither agent's turn reads the other's own state (44_radio_link_fsm.md R223; 20_memory.md R61). -/

namespace Sys2Proof.Machine

open Sys2Proof

/-! ### Rows not selected (log entry 20) -/

theorem execCInit_refused {s : State} (h : s.ctrl ≠ .init) : execCInit s = .refused (.notSelected .cInit) := if_neg h

theorem execCIdle_refused {s : State} (h : s.ctrl ≠ .idle) : execCIdle s = .refused (.notSelected .cIdle) := if_neg h

theorem execCDisplaying_refused {s : State} (h : s.ctrl ≠ .displaying) :
    execCDisplaying s = .refused (.notSelected .cDisplaying) := if_neg h

theorem execCTransmitting_refused {s : State} (h : s.ctrl ≠ .transmitting) :
    execCTransmitting s = .refused (.notSelected .cTransmitting) := if_neg h

theorem execLInit_refused {s : State} (h : s.link ≠ .init) : execLInit s = .refused (.notSelected .lInit) := if_neg h

theorem execLIdle_refused {s : State} (h : s.link ≠ .idle) : execLIdle s = .refused (.notSelected .lIdle) := if_neg h

theorem execLEncode_refused {s : State} (h : s.link ≠ .encode) :
    execLEncode s = .refused (.notSelected .lEncode) := if_neg h

theorem execLTransmit_refused {s : State} (h : s.link ≠ .transmit) :
    execLTransmit s = .refused (.notSelected .lTransmit) := if_neg h

/-! ### Changing the next state of an outcome -/

@[simp] theorem mapNext_next (g : State → State) (s : State) : mapNext g (.next s) = .next (g s) := rfl
@[simp] theorem mapNext_fault (g : State → State) (f : Fault) : mapNext g (.fault f) = .fault f := rfl
@[simp] theorem mapNext_refused (g : State → State) (r : Refusal) : mapNext g (.refused r) = .refused r := rfl

/-! ### A Radio Link turn under another Controller state -/

/-- The state with the Controller's own elements replaced. -/
def State.withController (s : State) (a : Act) (c : CtrlState) (k : Key) : State :=
  { s with act := a, ctrl := c, lastKey := k }

/-! What a Radio Link turn reads is the same there, and what it writes is written the same. -/

section
variable (s : State) (a : Act) (c : CtrlState) (k : Key)

@[simp] theorem State.withController_link : (s.withController a c k).link = s.link := rfl
@[simp] theorem State.withController_active : (s.withController a c k).active = s.active := rfl
@[simp] theorem State.withController_encoded : (s.withController a c k).encoded = s.encoded := rfl
@[simp] theorem State.withController_joinPending : (s.withController a c k).joinPending = s.joinPending := rfl
@[simp] theorem State.withController_queue : (s.withController a c k).queue = s.queue := rfl
@[simp] theorem State.withController_senderAddr : (s.withController a c k).senderAddr = s.senderAddr := rfl
@[simp] theorem State.withController_sent : (s.withController a c k).sent = s.sent := rfl

@[simp] theorem State.withController_setLink (v : LinkState) :
    (s.withController a c k).setLink v = (s.setLink v).withController a c k := rfl
@[simp] theorem State.withController_setActive (v : Memory) :
    (s.withController a c k).setActive v = (s.setActive v).withController a c k := rfl
@[simp] theorem State.withController_setEncoded (v : Memory) :
    (s.withController a c k).setEncoded v = (s.setEncoded v).withController a c k := rfl
@[simp] theorem State.withController_setJoinPending (v : Bool) :
    (s.withController a c k).setJoinPending v = (s.setJoinPending v).withController a c k := rfl
@[simp] theorem State.withController_setJoinInProgress (v : Bool) :
    (s.withController a c k).setJoinInProgress v = (s.setJoinInProgress v).withController a c k := rfl
@[simp] theorem State.withController_setQueue (v : List Frame) :
    (s.withController a c k).setQueue v = (s.setQueue v).withController a c k := rfl
@[simp] theorem State.withController_setSent (v : List EncFrame) :
    (s.withController a c k).setSent v = (s.setSent v).withController a c k := rfl

@[simp] theorem State.withController_memRead_active :
    (s.withController a c k).memRead .active 0 16 = s.memRead .active 0 16 := by
  simp only [State.memRead_active, State.withController_active]
@[simp] theorem State.withController_memRead_encoded :
    (s.withController a c k).memRead .encoded 0 32 = s.memRead .encoded 0 32 := by
  simp only [State.memRead_encoded, State.withController_encoded]

theorem execLInit_withController :
    execLInit (s.withController a c k) = mapNext (fun t => t.withController a c k) (execLInit s) := by
  by_cases h : s.link = .init
  · simp [execLInit_eq, h]
  · rw [execLInit_refused h]; exact execLInit_refused h

theorem execLIdle_withController :
    execLIdle (s.withController a c k) = mapNext (fun t => t.withController a c k) (execLIdle s) := by
  by_cases h : s.link = .idle
  · cases hj : s.joinPending with
    | true => simp [execLIdle_join, h, hj]
    | false =>
      cases hq : s.queue with
      | nil => simp [execLIdle_empty, h, hj, hq]
      | cons f q => simp [execLIdle_frame (f := f) (q := q), h, hj, hq]
  · rw [execLIdle_refused h]; exact execLIdle_refused h

theorem execLEncode_withController :
    execLEncode (s.withController a c k) = mapNext (fun t => t.withController a c k) (execLEncode s) := by
  by_cases h : s.link = .encode
  · cases hu : s.memRead .active 0 16 with
    | ok u => simp [execLEncode_eq (u := u), h, hu]
    | error e => simp [execLEncode_fault (e := e), h, hu]
  · rw [execLEncode_refused h]; exact execLEncode_refused h

theorem execLTransmit_withController :
    execLTransmit (s.withController a c k) = mapNext (fun t => t.withController a c k) (execLTransmit s) := by
  by_cases h : s.link = .transmit
  · cases he : s.memRead .encoded 0 32 with
    | ok e => simp [execLTransmit_eq (e := e), h, he]
    | error e => simp [execLTransmit_fault (e := e), h, he]
  · rw [execLTransmit_refused h]; exact execLTransmit_refused h

/-- A Radio Link turn reads nothing of the Controller's own state (R223). -/
theorem exec_radioLinkTurn_withController {i : Instr} (hi : i ∈ radioLinkTurns) :
    exec i (s.withController a c k) = mapNext (fun t => t.withController a c k) (exec i s) := by
  have hrow : i = .lInit ∨ i = .lIdle ∨ i = .lEncode ∨ i = .lTransmit := by simpa [radioLinkTurns] using hi
  rcases hrow with rfl | rfl | rfl | rfl
  · exact execLInit_withController s a c k
  · exact execLIdle_withController s a c k
  · exact execLEncode_withController s a c k
  · exact execLTransmit_withController s a c k

end

/-! ### A Controller turn under another Radio Link state -/

/-- The state with the Radio Link's own elements and the join event's flag replaced. -/
def State.withRadioLink (s : State) (l : LinkState) (m n : Memory) (p g : Bool) : State :=
  { s with link := l, active := m, encoded := n, joinPending := p, joinInProgress := g }

section
variable (s : State) (l : LinkState) (m n : Memory) (p g : Bool)

theorem State.waitOrDrop_withRadioLink :
    (s.withRadioLink l m n p g).waitOrDrop = s.waitOrDrop.withRadioLink l m n p g := by
  rcases s.waitOrDrop_cases with ⟨w, he, hw, e⟩ | ⟨he | hw, e⟩
  · rw [e]; exact State.waitOrDrop_succ he hw
  · rw [e]; exact State.waitOrDrop_expired he
  · rw [e]; exact State.waitOrDrop_zero hw

theorem execCInit_withRadioLink :
    execCInit (s.withRadioLink l m n p g) = mapNext (fun t => t.withRadioLink l m n p g) (execCInit s) := by
  by_cases h : s.ctrl = .init
  · rw [execCInit_eq h]; exact execCInit_eq h
  · rw [execCInit_refused h]; exact execCInit_refused h

theorem execCIdle_withRadioLink :
    execCIdle (s.withRadioLink l m n p g) = mapNext (fun t => t.withRadioLink l m n p g) (execCIdle s) := by
  by_cases h : s.ctrl = .idle
  · cases hk : s.keyAnswer with
    | none => rw [execCIdle_none h hk]; exact execCIdle_none h hk
    | some k => rw [execCIdle_some h hk]; exact execCIdle_some h hk
  · rw [execCIdle_refused h]; exact execCIdle_refused h

theorem execCDisplaying_withRadioLink :
    execCDisplaying (s.withRadioLink l m n p g) =
      mapNext (fun t => t.withRadioLink l m n p g) (execCDisplaying s) := by
  by_cases h : s.ctrl = .displaying
  · cases hk : Key.recognised s.lastKey with
    | true => rw [execCDisplaying_recognised h hk]; exact execCDisplaying_recognised h hk
    | false => rw [execCDisplaying_unrecognised h hk]; exact execCDisplaying_unrecognised h hk
  · rw [execCDisplaying_refused h]; exact execCDisplaying_refused h

theorem execCTransmitting_withRadioLink :
    execCTransmitting (s.withRadioLink l m n p g) =
      mapNext (fun t => t.withRadioLink l m n p g) (execCTransmitting s) := by
  by_cases h : s.ctrl = .transmitting
  · cases hf : messageFor s.senderAddr s.act s.lastKey with
    | none => rw [execCTransmitting_none h hf]; exact execCTransmitting_none h hf
    | some f =>
      by_cases hq : s.queue.length < 10
      · rw [execCTransmitting_push h hf hq]; exact execCTransmitting_push h hf hq
      · have hfull : 10 ≤ s.queue.length := by omega
        rw [execCTransmitting_full h hf hfull, mapNext_next, ← State.waitOrDrop_withRadioLink]
        exact execCTransmitting_full h hf hfull
  · rw [execCTransmitting_refused h]; exact execCTransmitting_refused h

theorem controllerStep_withRadioLink :
    controllerStep (s.withRadioLink l m n p g) =
      mapNext (fun t => t.withRadioLink l m n p g) (controllerStep s) := by
  have hctrl : (s.withRadioLink l m n p g).ctrl = s.ctrl := rfl
  unfold controllerStep
  rw [hctrl]
  cases s.ctrl with
  | init => exact execCInit_withRadioLink s l m n p g
  | idle => exact execCIdle_withRadioLink s l m n p g
  | displaying => exact execCDisplaying_withRadioLink s l m n p g
  | transmitting => exact execCTransmitting_withRadioLink s l m n p g

theorem keyLine_withRadioLink (k : Key) :
    keyLine k (s.withRadioLink l m n p g) = mapNext (fun t => t.withRadioLink l m n p g) (keyLine k s) := by
  by_cases h : s.ctrl = .idle
  · rw [keyLine_idle h]; exact keyLine_idle (s := s.withRadioLink l m n p g) h k
  · rw [keyLine_other h, ← controllerStep_withRadioLink]; exact keyLine_other (s := s.withRadioLink l m n p g) h k

/-- A Controller turn reads nothing of the Radio Link's own state (R61). -/
theorem exec_controllerTurn_withRadioLink {i : Instr} (hi : i ∈ controllerTurns) :
    exec i (s.withRadioLink l m n p g) = mapNext (fun t => t.withRadioLink l m n p g) (exec i s) := by
  rcases List.mem_append.mp hi with hrow | hkey
  · have hrow : i = .cInit ∨ i = .cIdle ∨ i = .cDisplaying ∨ i = .cTransmitting := by simpa using hrow
    rcases hrow with rfl | rfl | rfl | rfl
    · exact execCInit_withRadioLink s l m n p g
    · exact execCIdle_withRadioLink s l m n p g
    · exact execCDisplaying_withRadioLink s l m n p g
    · exact execCTransmitting_withRadioLink s l m n p g
  · obtain ⟨e, he, rfl⟩ := List.mem_map.mp hkey
    rw [exec_keyEvent he, exec_keyEvent he]
    exact keyLine_withRadioLink s l m n p g e.1

end

/-- Settles O56: each turn's outcome under the other agent's changed state is its outcome, changed in the same way. -/
theorem agentsDoNotReadEachOthersState : Obligations.AgentsDoNotReadEachOthersState := by
  unfold Obligations.AgentsDoNotReadEachOthersState
  exact ⟨fun _ hi s a c k => exec_radioLinkTurn_withController s a c k hi,
    fun _ hi s l m n p g => exec_controllerTurn_withRadioLink s l m n p g hi⟩

end Sys2Proof.Machine
end

section
/-! What words of the encoding and the frames that the XYZ and ROT rows match decode to, and the tags of built frames
(30_encoding.md R73 to R94). -/

namespace Sys2Proof

/-! ### Words whose low bits are the pattern (R74, R75, R108) -/

/-- A pattern zero-extended to its byte is read back. -/
@[simp] theorem lowBits_setWidth {n : Nat} (hn : n ≤ 8) (v : BitVec n) : lowBits n (v.setWidth 8) = .ok v := by
  have hval : (v.setWidth 8).toNat = v.toNat := BitVec.toNat_setWidth_of_le hn
  have hback : (v.setWidth 8).setWidth n = v := by rw [BitVec.setWidth_setWidth_of_le v hn, BitVec.setWidth_eq]
  rw [lowBits, hval, hback, if_pos v.isLt]

/-- A byte with a bit above the pattern set is rejected. -/
theorem lowBits_reserved {n : Nat} {b : Byte} (h : 2 ^ n ≤ b.toNat) : lowBits n b = .error .reservedBits :=
  if_neg (Nat.not_lt.mpr h)

theorem decode_keyWord (c : BitVec 4) : decode ⟨.key, [c.setWidth 8]⟩ = .ok (decodeKey c) := by
  simp [decode, oneField, oneByte]

theorem decode_key_reserved {b : Byte} (h : 16 ≤ b.toNat) : decode ⟨.key, [b]⟩ = .error .reservedBits := by
  simp [decode, oneField, oneByte, lowBits_reserved (n := 4) h]

theorem decode_ctrlStateWord (c : BitVec 2) : decode ⟨.ctrlState, [c.setWidth 8]⟩ = .ok (decodeCtrlState c) := by
  simp [decode, oneField, oneByte]

theorem decode_linkStateWord (c : BitVec 2) : decode ⟨.linkState, [c.setWidth 8]⟩ = .ok (decodeLinkState c) := by
  simp [decode, oneField, oneByte]

theorem decode_syndromeWord (s : Syndrome) (r : Byte) :
    decode ⟨.syndrome, [s.setWidth 8, r]⟩ = .ok (decodeSyndrome s r) := by
  simp [decode, twoBytes]

theorem decode_tagWord (t : Byte) : decode ⟨.tag, [t]⟩ = decodeTag t := rfl

/-! ### Frames by their layout (R89) -/

/-- A frame whose layout is recognised and whose row's mask matches is that row's. -/
theorem decode_frame_of_layout {f : Frame} {l : Layout} (hl : frameLayout f = some l) (hb : layoutBits f l = true) :
    decode ⟨.frame, f.toList⟩ = .ok (layoutOperation f l) := by
  rw [decode_frame]
  simp [decodeFrameLayout, hl, hb]

theorem frameLayout_xyz {f : Frame} (h0 : f[0] = 0x22) (h5 : f[5] = 0x58) (h6 : f[6] = 0x59) (h7 : f[7] = 0x5A) :
    frameLayout f = some .xyz :=
  if_pos ⟨h0, h5, h6, h7⟩

theorem frameLayout_rot {f : Frame} (h0 : f[0] = 0x23) (h5 : f[5] = 0x52) (h6 : f[6] = 0x4F) (h7 : f[7] = 0x54) :
    frameLayout f = some .rot := by
  simp [frameLayout, h0, h5, h6, h7]

/-- What holds of a frame's `n` bytes from offset `o` on, byte by byte. -/
theorem forall_mem_frameBytes_iff (f : Frame) (o n : Nat) (h : o + n ≤ 16) (p : Byte → Prop) :
    (∀ b ∈ (f.toList.drop o).take n, p b) ↔ ∀ k : Fin n, p f[o + k.val] := by
  have hlength : ((f.toList.drop o).take n).length = n := by simp; omega
  have hbyte (k : Nat) (hk : k < n) : ((f.toList.drop o).take n)[k] = f[o + k] := by simp
  rw [List.forall_mem_iff_forall_getElem]
  constructor
  · intro hall k
    exact hbyte k k.isLt ▸ hall k (by simp [hlength])
  · intro hall k hk
    have hkn : k < n := hlength ▸ hk
    exact hbyte k hkn ▸ hall ⟨k, hkn⟩

theorem digitBytes_iff (f : Frame) (o n : Nat) (h : o + n ≤ 16) :
    digitBytes f o n = true ↔ ∀ k : Fin n, f[o + k.val].extractLsb' 4 4 = 0x3 := by
  simp only [digitBytes, List.all_eq_true, beq_iff_eq]
  exact forall_mem_frameBytes_iff f o n h fun b => b.extractLsb' 4 4 = 0x3

theorem zeroFrom_iff (f : Frame) (o n : Nat) (h : o + n = 16) :
    zeroFrom f o = true ↔ ∀ k : Fin n, f[o + k.val] = 0x00 := by
  have hrest : (f.toList.drop o).take n = f.toList.drop o := List.take_of_length_le (by simp; omega)
  simp only [zeroFrom, List.all_eq_true, beq_iff_eq]
  rw [← hrest]
  exact forall_mem_frameBytes_iff f o n h.le fun b => b = 0x00

/-- Every frame that the mask of the XYZ row matches is of that row (R77, R89). -/
theorem decode_xyzFrame {f : Frame} (hl : frameLayout f = some .xyz)
    (hdigits : ∀ k : Fin 8, f[8 + k.val].extractLsb' 4 4 = 0x3) :
    decode ⟨.frame, f.toList⟩ = .ok (layoutOperation f .xyz) :=
  decode_frame_of_layout hl ((digitBytes_iff f 8 8 (by decide)).mpr hdigits)

/-- Every frame that the mask of the ROT row matches is of that row (R78, R89). -/
theorem decode_rotFrame {f : Frame} (hl : frameLayout f = some .rot)
    (hdigits : ∀ k : Fin 3, f[8 + k.val].extractLsb' 4 4 = 0x3) (hzero : ∀ k : Fin 5, f[11 + k.val] = 0x00) :
    decode ⟨.frame, f.toList⟩ = .ok (layoutOperation f .rot) := by
  have hd : digitBytes f 8 3 = true := (digitBytes_iff f 8 3 (by decide)).mpr hdigits
  have hz : zeroFrom f 11 = true := (zeroFrom_iff f 11 5 rfl).mpr hzero
  exact decode_frame_of_layout hl (by simp [layoutBits, hd, hz])

/-- Settles O58: the written-out words are words of their ports' codes, and the two mask clauses are the XYZ and ROT
rows' matches. -/
theorem wordsDecodeToTheirOperations : Obligations.WordsDecodeToTheirOperations := by
  unfold Obligations.WordsDecodeToTheirOperations
  refine ⟨decode_keyWord 0xB, decode_keyWord 0xE, decode_ctrlStateWord 2, decode_linkStateWord 3, decode_tagWord 0x24,
    decode_syndromeWord 6 0x3B, ?rotWord, decode_tagWord 0x21, decode_key_reserved (by decide), ?xyzFrames, ?rotFrames⟩
  case rotWord =>
    exact decode_frame_of_layout (l := .rot)
      (f := #v[0x23, 0x47, 0x41, 0x85, 0x89, 0x52, 0x4F, 0x54, 0x31, 0x37, 0x30, 0, 0, 0, 0, 0]) (by decide) (by decide)
  case xyzFrames =>
    intro f h0 h5 h6 h7 hdigits
    exact ⟨_, _, _, decode_xyzFrame (frameLayout_xyz h0 h5 h6 h7) hdigits⟩
  case rotFrames =>
    intro f h0 h5 h6 h7 hdigits hzero
    exact ⟨_, decode_rotFrame (frameLayout_rot h0 h5 h6 h7) hdigits hzero⟩

end Sys2Proof

namespace Sys2Proof.Machine

open Sys2Proof

/-! ### The tag of a built frame (R73, R133) -/

/-- Byte 0 of every builder's frame is the tag it is given (R133). -/
@[simp] theorem assemble_zero (t : Byte) (a : Address) (p : Vector Byte 11) : (assemble t a p)[0] = t := rfl

theorem buildJoin_zero (a : Address) : (buildJoin a)[0] = tagJoin := assemble_zero ..

theorem buildXyz_zero (a : Address) (x y : U16) (z : Byte) : (buildXyz a x y z)[0] = tagXyz := assemble_zero ..

theorem buildRot_zero (a : Address) (angle : Byte) : (buildRot a angle)[0] = tagRot := assemble_zero ..

theorem buildVac_zero (a : Address) (on : Bool) : (buildVac a on)[0] = tagVac := by
  cases on with
  | false => exact assemble_zero ..
  | true => exact assemble_zero ..

/-! ### The tag rows (log entry 17) -/

theorem exec_tagJoin (s : State) : exec .tagJoin s = .next (s.setResult (.tag tagJoin)) := rfl
theorem exec_tagXyz (s : State) : exec .tagXyz s = .next (s.setResult (.tag tagXyz)) := rfl
theorem exec_tagRot (s : State) : exec .tagRot s = .next (s.setResult (.tag tagRot)) := rfl
theorem exec_tagVac (s : State) : exec .tagVac s = .next (s.setResult (.tag tagVac)) := rfl

/-- Settles O19: a tag row and the frames of its builder name the same constant. -/
theorem tagRowsGiveByteZeroOfTheirFrames : Obligations.TagRowsGiveByteZeroOfTheirFrames := by
  unfold Obligations.TagRowsGiveByteZeroOfTheirFrames
  intro s
  refine ⟨exec_tagJoin s, exec_tagXyz s, exec_tagRot s, exec_tagVac s, fun a x y z angle on => ?_⟩
  exact ⟨buildJoin_zero a, buildXyz_zero a x y z, buildRot_zero a angle, buildVac_zero a on⟩

end Sys2Proof.Machine
end

section
/-! The codec's laws: the bits of a codeword, the linearity of the syndrome and of the parity, and what the decoder makes
of a codeword with an error added (40_hamming_codec.md R100 to R118). -/

namespace Sys2Proof.Machine

open Sys2Proof

/-! ### The bits of a codeword (R101, R102) -/

/-- Above the parity bit stand the nibble and its check bits. -/
theorem encn_getLsbD_succ (v : Variant) (n : Nibble) (i : Nat) :
    (encn v n).getLsbD (i + 1) = (n ++ checkBits v n).getLsbD i :=
  BitVec.getLsbD_append.trans (by simp)

theorem encn_checkBit (v : Variant) (n : Nibble) {i : Nat} (hi : i < 3) :
    (encn v n).getLsbD (i + 1) = (checkBits v n).getLsbD i := by
  rw [encn_getLsbD_succ, BitVec.getLsbD_append, if_pos hi]

/-- Bits 3 to 1 of a codeword are the check bits of its nibble. -/
theorem encn_checkBits (v : Variant) (n : Nibble) : (encn v n).extractLsb' 1 3 = checkBits v n := by
  ext i hi
  rw [BitVec.getElem_extractLsb', Nat.add_comm, encn_checkBit v n hi, BitVec.getLsbD_eq_getElem hi]

/-- Bits 7 to 4 of a codeword are its nibble. -/
theorem encn_dataBits (v : Variant) (n : Nibble) : (encn v n).extractLsb' 4 4 = n := by
  ext i hi
  rw [BitVec.getElem_extractLsb', show 4 + i = i + 3 + 1 by omega, encn_getLsbD_succ, BitVec.getLsbD_append,
    if_neg (by omega), Nat.add_sub_cancel, BitVec.getLsbD_eq_getElem hi]

/-- Bit 0 of a codeword is the even parity of the seven others. -/
theorem encn_parityBit (v : Variant) (n : Nibble) : (encn v n).getLsbD 0 = computedParity (encn v n) := by
  have hmatch : parMatch (encn v n) = true := parMatch_encn v n
  exact (beq_iff_eq.mp hmatch).symm

/-- The check equations of variant A (R101). -/
theorem checkBits_variantA (n : Nibble) :
    (checkBits .a n).getLsbD 0 = (n.getLsbD 1 ^^ n.getLsbD 2 ^^ n.getLsbD 3) ∧
    (checkBits .a n).getLsbD 1 = (n.getLsbD 0 ^^ n.getLsbD 2 ^^ n.getLsbD 3) ∧
    (checkBits .a n).getLsbD 2 = (n.getLsbD 0 ^^ n.getLsbD 1 ^^ n.getLsbD 3) := by
  revert n
  decide

/-- In variant A the parity bit is the exclusive-or of D0, D1 and D2: over the three check bits and D3 to D0, each of D0
to D2 is counted three times and D3 four times. -/
theorem computedParity_encn_variantA (n : Nibble) :
    computedParity (encn .a n) = (n.getLsbD 0 ^^ n.getLsbD 1 ^^ n.getLsbD 2) := by
  revert n
  decide

/-! ### Error patterns: the checks are linear (R107, R111) -/

theorem checkBits_xor (v : Variant) (a b : Nibble) : checkBits v (a ^^^ b) = checkBits v a ^^^ checkBits v b := by
  cases v <;> revert a b <;> decide

theorem syndrome_xor (v : Variant) (r e : Byte) : syndrome v (r ^^^ e) = syndrome v r ^^^ syndrome v e := by
  simp only [syndrome, BitVec.extractLsb'_xor, checkBits_xor]
  ac_rfl

theorem computedParity_xor (r e : Byte) : computedParity (r ^^^ e) = (computedParity r ^^ computedParity e) := by
  have hcomm : Std.Commutative xor := ⟨Bool.xor_comm⟩
  simp only [computedParity, BitVec.getLsbD_xor]
  ac_rfl

/-- A codeword passes its own checks (R106). -/
theorem syndrome_encn (v : Variant) (n : Nibble) : syndrome v (encn v n) = 0#3 := by
  rw [syndrome, encn_checkBits, encn_dataBits, BitVec.xor_self]

/-- The syndrome of a codeword with an error added is the error's. -/
theorem syndrome_encn_xor (v : Variant) (n : Nibble) (e : Byte) : syndrome v (encn v n ^^^ e) = syndrome v e := by
  rw [syndrome_xor, syndrome_encn, BitVec.zero_xor]

/-- The parity outcome of a codeword with an error added is the error's. -/
theorem parMatch_encn_xor (v : Variant) (n : Nibble) (e : Byte) : parMatch (encn v n ^^^ e) = parMatch e := by
  simp only [parMatch, computedParity_xor, BitVec.getLsbD_xor, encn_parityBit]
  simp

/-- The decoder answers the nibble of a codeword plus what it makes of the error added to it. -/
theorem decn_encn_xor (v : Variant) (n : Nibble) (e : Byte) : decn v (encn v n ^^^ e) = n ^^^ decn v e := by
  simp only [decn, correct, syndrome_encn_xor, BitVec.extractLsb'_xor, encn_dataBits, BitVec.xor_assoc]

/-- A codeword decodes to its nibble (R117): it is itself with no error added. -/
theorem decn_encn (v : Variant) (n : Nibble) : decn v (encn v n) = n := by
  have hzero : decn v 0#8 = 0#4 := by cases v <;> decide
  simpa [hzero] using decn_encn_xor v n 0#8

theorem decb_encb (v : Variant) (b : Byte) : decb v (encb v b).1 (encb v b).2 = b := by
  rw [decb, encb, decn_encn, decn_encn, joinNibbles_high_low]

/-- Every error of one bit decodes to the zero nibble: its flip undoes it, or it is the parity bit. -/
theorem decn_singleBit (v : Variant) (k : Fin 8) : decn v (1#8 <<< k.val) = 0#4 := by
  cases v <;> revert k <;> decide

theorem parMatch_singleBit (k : Fin 8) : parMatch (1#8 <<< k.val) = false := by
  revert k
  decide

/-! ### The outputs in the specification's own words (R85, R107, R112) -/

/-- The syndrome of variant A, bit by bit (R107). -/
theorem syndrome_variantA (r : Byte) :
    syndrome .a r =
      BitVec.ofBool (r.getLsbD 3 ^^ r.getLsbD 4 ^^ r.getLsbD 5 ^^ r.getLsbD 7) ++
      BitVec.ofBool (r.getLsbD 2 ^^ r.getLsbD 4 ^^ r.getLsbD 6 ^^ r.getLsbD 7) ++
      BitVec.ofBool (r.getLsbD 1 ^^ r.getLsbD 5 ^^ r.getLsbD 6 ^^ r.getLsbD 7) := by
  revert r
  decide

/-- The open parameter picks which of the two parity outcomes is reported (R112). -/
theorem hasParityFault_eq (sense : ParityFaultSense) (r : Byte) :
    hasParityFault sense r = if sense = .trueOnMatch then parMatch r else !parMatch r := by
  cases sense with
  | trueOnMatch => rfl
  | trueOnMismatch => exact parMismatch_eq_not r

/-- Joining two nibbles is the shift and the or of R85. -/
theorem joinNibbles_eq_shift_or (hi lo : Nibble) : joinNibbles hi lo = (hi.setWidth 8 <<< 4) ||| lo.setWidth 8 := by
  revert hi lo
  decide

/-! ### The answers of the codec's operations -/

theorem exec_encn (n : Nibble) (s : State) :
    exec (.encn n) s = .next (s.setResult (.codeword (encn Config.hammingVariant n))) := rfl

theorem exec_decn (r : Byte) (s : State) :
    exec (.decn r) s =
      .next (s.setResult (.nibble (decn Config.hammingVariant r) (syndrome Config.hammingVariant r))) := rfl

theorem exec_parchk (r : Byte) (s : State) :
    exec (.parchk r) s =
      .next (s.setResult (.parity (parMatch r) (!parMatch r) (hasParityFault Config.parityFaultSense r))) := by
  rw [← parMismatch_eq_not]
  rfl

theorem exec_encb (b : Byte) (s : State) :
    exec (.encb b) s =
      .next (s.setResult (.bytePair (encb Config.hammingVariant b).1 (encb Config.hammingVariant b).2)) := rfl

theorem exec_decb (r0 r1 : Byte) (s : State) :
    exec (.decb r0 r1) s =
      .next (s.setResult (.byte (decb Config.hammingVariant r0 r1) (parMatch r0) (parMatch r1)
        (syndrome Config.hammingVariant r0) (syndrome Config.hammingVariant r1))) := rfl

/-- The row of a syndrome gives that row of the correction table (R108). -/
theorem exec_decodeSyndrome (k : Syndrome) (r : Byte) (s : State) :
    exec (decodeSyndrome k r) s = .next (s.setResult (correctionRow k r)) := by
  fin_cases k <;> rfl

/-! ### The obligations -/

/-- Settles O1, from the check bits and the parity bit of a codeword. -/
theorem encnFollowsTheCheckEquations : Obligations.EncnFollowsTheCheckEquations := by
  unfold Obligations.EncnFollowsTheCheckEquations
  intro n s
  obtain ⟨h0, h1, h2⟩ := checkBits_variantA n
  have hcheck {i : Nat} (hi : i < 3) := encn_checkBit .a n hi
  have hparity := encn_parityBit .a n
  exact ⟨encn .a n, exec_encn n s, encn_dataBits .a n, (hcheck (by decide)).trans h0, (hcheck (by decide)).trans h1,
    (hcheck (by decide)).trans h2, hparity, hparity.trans (computedParity_encn_variantA n)⟩

/-- Settles O3: the syndrome in force is the stated one, and the decoder applies that entry of the table. -/
theorem decnCorrectsBySyndrome : Obligations.DecnCorrectsBySyndrome := by
  unfold Obligations.DecnCorrectsBySyndrome
  intro r s s0 s1 s2 syn flips
  have hsyn : syndrome Config.hammingVariant r = syn := syndrome_variantA r
  rw [exec_decn, decn, correct, hsyn]
  rfl

/-- Settles O4, in each sense of the open parameter. -/
theorem parchkComparesTheParities : Obligations.ParchkComparesTheParities := by
  unfold Obligations.ParchkComparesTheParities
  intro r s
  have h := exec_parchk r s
  rwa [hasParityFault_eq] at h

/-- Settles O5, from the answers of the three operations. -/
theorem encbEncodesLowNibbleFirst : Obligations.EncbEncodesLowNibbleFirst := by
  unfold Obligations.EncbEncodesLowNibbleFirst
  intro b s
  exact ⟨_, _, exec_encn (lowNibble b) s, exec_encn (highNibble b) s, exec_encb b s⟩

/-- Settles O6, from the answers of the five operations. -/
theorem decbJoinsTheNibbles : Obligations.DecbJoinsTheNibbles := by
  unfold Obligations.DecbJoinsTheNibbles
  intro r0 r1 s
  refine ⟨_, _, _, _, _, _, _, _, exec_decn r0 s, exec_decn r1 s, exec_parchk r0 s, exec_parchk r1 s, ?_⟩
  rw [← joinNibbles_eq_shift_or]
  exact exec_decb r0 r1 s

/-- Settles O7: the listed rows are those of the eight syndromes, with their entries of the table. -/
theorem syndromeRowsFlipTheirBit : Obligations.SyndromeRowsFlipTheirBit := by
  unfold Obligations.SyndromeRowsFlipTheirBit
  intro r s p hp
  have hrow : p ∈ ([0, 1, 2, 3, 4, 5, 6, 7] : List Syndrome).map fun k =>
      (decodeSyndrome k r, flipMask Config.hammingVariant k) := hp
  obtain ⟨k, -, rfl⟩ := List.mem_map.mp hrow
  exact exec_decodeSyndrome k r s

/-- Settles O8: a codeword's syndrome is zero and its parities match, so nothing is flipped. -/
theorem roundTripGivesBackNibbleAndByte : Obligations.RoundTripGivesBackNibbleAndByte := by
  unfold Obligations.RoundTripGivesBackNibbleAndByte
  intro s
  constructor
  · intro n
    refine ⟨_, exec_encn n s, ?_⟩
    rw [exec_decn, decn_encn, syndrome_encn]
    rfl
  · intro b
    refine ⟨_, _, exec_encb b s, ?_⟩
    rw [exec_decb, decb_encb, encb, parMatch_encn, parMatch_encn, syndrome_encn, syndrome_encn]
    rfl

/-- Settles O9: the decoder and the parities see the error alone, and both know every error of one bit. -/
theorem singleBitErrorsAreCorrected : Obligations.SingleBitErrorsAreCorrected := by
  unfold Obligations.SingleBitErrorsAreCorrected
  intro n k s
  have hnibble := exec_decn (encn Config.hammingVariant n ^^^ (1#8 <<< k.val)) s
  have hparities := exec_parchk (encn Config.hammingVariant n ^^^ (1#8 <<< k.val)) s
  rw [decn_encn_xor, decn_singleBit, BitVec.xor_zero] at hnibble
  rw [parMatch_encn_xor, parMatch_singleBit] at hparities
  exact ⟨_, _, _, exec_encn n s, hnibble, hparities⟩

/-- Settles O24: the answer of each pure operation is made of its operands alone. -/
theorem pureFunctionsNeitherReadNorWriteState : Obligations.PureFunctionsNeitherReadNorWriteState := by
  unfold Obligations.PureFunctionsNeitherReadNorWriteState
  intro i hi
  cases i
  case k0 | k1 | k2 | k3 | k4 | k5 | k6 | k7 | k8 | k9 | ka | kb | kc | kunrecD | kunrecE | kunrecF | cInit | cIdle |
    cDisplaying | cTransmitting | lInit | lIdle | lEncode | lTransmit | joinTrigger | reset => cases hi
  all_goals exact ⟨_, fun _ => rfl⟩

end Sys2Proof.Machine
end

section
/-! The frame builders' laws: the digits in ASCII, and the bytes of an assembled frame (41_frame_builder.md R130 to
R140). -/

namespace Sys2Proof.Machine

open Sys2Proof

/-! ### Digits (R130, R131) -/

/-- Hundreds, tens and ones of any value; what stands above the hundreds is dropped (R130). -/
theorem threeDigits_toNat (v : Nat) :
    (threeDigits v).1.toNat = v / 100 % 10 + 0x30 ∧ (threeDigits v).2.1.toNat = v / 10 % 10 + 0x30 ∧
      (threeDigits v).2.2.toNat = v % 10 + 0x30 := by
  have hones := asciiDigit_toNat v 1
  rw [Nat.div_one] at hones
  exact ⟨asciiDigit_toNat v 100, asciiDigit_toNat v 10, hones⟩

/-- The two digits are the last two of the three (R131). -/
theorem twoDigits_eq (v : Nat) : twoDigits v = (threeDigits v).2 := rfl

theorem twoDigits_toNat (v : Nat) :
    (twoDigits v).1.toNat = v / 10 % 10 + 0x30 ∧ (twoDigits v).2.toNat = v % 10 + 0x30 := by
  rw [twoDigits_eq]
  exact (threeDigits_toNat v).2

/-! ### The bytes of an assembled frame (R133) -/

/-- Bytes 1 to 4 are the address, in its own order (R48). -/
theorem assemble_address (t : Byte) (a : Address) (p : Vector Byte 11) (k : Fin 4) :
    (assemble t a p)[k.val + 1] = a[k] := by
  fin_cases k <;> rfl

/-- The ROT frame is zero after its digits (R135, R140). -/
theorem buildRot_padding (a : Address) (angle : Byte) (k : Fin 5) : (buildRot a angle)[k.val + 11] = 0x00 := by
  fin_cases k <;> rfl

/-! ### The answers of the digit operations and of the builders -/

theorem exec_dig3 (v : U16) (s : State) :
    exec (.dig3 v) s =
      .next (s.setResult (.digits3 (threeDigits v.toNat).1 (threeDigits v.toNat).2.1 (threeDigits v.toNat).2.2)) := rfl

theorem exec_dig2 (v : Byte) (s : State) :
    exec (.dig2 v) s = .next (s.setResult (.digits2 (twoDigits v.toNat).1 (twoDigits v.toNat).2)) := rfl

theorem exec_buildXyz (a : Address) (x y : U16) (z : Byte) (s : State) :
    exec (.buildXyz a x y z) s = .next (s.setResult (.frame (buildXyz a x y z))) := rfl

theorem exec_buildRot (a : Address) (angle : Byte) (s : State) :
    exec (.buildRot a angle) s = .next (s.setResult (.frame (buildRot a angle))) := rfl

theorem exec_buildVon (a : Address) (s : State) :
    exec (.buildVon a) s = .next (s.setResult (.frame (buildVon a))) := rfl

theorem exec_buildVoff (a : Address) (s : State) :
    exec (.buildVoff a) s = .next (s.setResult (.frame (buildVoff a))) := rfl

theorem exec_buildJoin (a : Address) (s : State) :
    exec (.buildJoin a) s = .next (s.setResult (.frame (buildJoin a))) := rfl

/-- `BUILD_VAC` is one of the two other VAC builders, by its flag (R138). -/
theorem exec_buildVac (a : Address) (on : Bool) (s : State) :
    exec (.buildVac a on) s = if on then exec (.buildVon a) s else exec (.buildVoff a) s := by
  cases on with
  | false => rfl
  | true => rfl

/-! ### The obligations -/

/-- Settles O14, from the digits of the value. -/
theorem digitOperationsGiveAsciiDigits : Obligations.DigitOperationsGiveAsciiDigits := by
  unfold Obligations.DigitOperationsGiveAsciiDigits
  intro s
  exact ⟨fun v => ⟨_, _, _, exec_dig3 v s, threeDigits_toNat v.toNat⟩,
    fun v => ⟨_, _, exec_dig2 v s, twoDigits_toNat v.toNat⟩⟩

/-- Settles O15: the tag, the address, and a payload of the string and the digits of the three values. -/
theorem buildXyzLaysOutItsFrame : Obligations.BuildXyzLaysOutItsFrame := by
  unfold Obligations.BuildXyzLaysOutItsFrame
  intro a x y z s
  obtain ⟨hx100, hx10, hx1⟩ := threeDigits_toNat x.toNat
  obtain ⟨hy100, hy10, hy1⟩ := threeDigits_toNat y.toNat
  obtain ⟨hz10, hz1⟩ := twoDigits_toNat z.toNat
  exact ⟨buildXyz a x y z, exec_buildXyz a x y z s, buildXyz_zero a x y z, assemble_address tagXyz a _,
    rfl, rfl, rfl, hx100, hx10, hx1, hy100, hy10, hy1, hz10, hz1⟩

/-- Settles O16: the tag, the address, and a payload of the string, the digits of the angle and the padding. -/
theorem buildRotLaysOutItsFrame : Obligations.BuildRotLaysOutItsFrame := by
  unfold Obligations.BuildRotLaysOutItsFrame
  intro a angle s
  obtain ⟨h100, h10, h1⟩ := threeDigits_toNat angle.toNat
  exact ⟨buildRot a angle, exec_buildRot a angle s, buildRot_zero a angle, assemble_address tagRot a _,
    rfl, rfl, rfl, h100, h10, h1, buildRot_padding a angle⟩

/-- Settles O17: the three constant payloads, and `BUILD_VAC` by way of the two builders it chooses from. -/
theorem vacAndJoinBuildersLayOutTheirFrames : Obligations.VacAndJoinBuildersLayOutTheirFrames := by
  unfold Obligations.VacAndJoinBuildersLayOutTheirFrames
  intro a s von voff join
  have hvon : exec (.buildVon a) s = .next (s.setResult (.frame von)) := exec_buildVon a s
  have hvoff : exec (.buildVoff a) s = .next (s.setResult (.frame voff)) := exec_buildVoff a s
  exact ⟨hvon, hvoff, (exec_buildVac a true s).trans hvon, (exec_buildVac a false s).trans hvoff, exec_buildJoin a s⟩

end Sys2Proof.Machine
end

section
/-! The frame codec's laws: what `ENCF` and `DECF` answer, lane by lane in the answers of `ENCN`, `DECN` and `PARCHK`
(42_frame_encoder.md R151 to R153). -/

namespace Sys2Proof.Machine

open Sys2Proof

/-! ### The answers of the frame operations -/

theorem exec_encf (u : Frame) (s : State) :
    exec (.encf u) s = .next (s.setResult (.encFrame (encf Config.hammingVariant u))) := rfl

theorem exec_decf (r : EncFrame) (s : State) :
    exec (.decf r) s =
      .next (s.setResult
        (.decFrame (decf Config.hammingVariant r) (decfParity r) (decfSyndromes Config.hammingVariant r))) := rfl

/-! ### The lanes -/

/-- The even lanes of `ENCF` are the codewords `ENCN` answers for the low nibbles (R151). -/
theorem exec_encn_lowNibble (u : Frame) (i : Nat) (h : i < 16) (s : State) :
    exec (.encn (lowNibble u[i])) s = .next (s.setResult (.codeword (encf Config.hammingVariant u)[2 * i])) := by
  rw [exec_encn, encf_even _ u i h]

/-- The odd lanes of `ENCF` are the codewords `ENCN` answers for the high nibbles (R151). -/
theorem exec_encn_highNibble (u : Frame) (i : Nat) (h : i < 16) (s : State) :
    exec (.encn (highNibble u[i])) s =
      .next (s.setResult (.codeword (encf Config.hammingVariant u)[2 * i + 1])) := by
  rw [exec_encn, encf_odd _ u i h]

/-- The syndromes of `DECF` are those `DECN` answers, codeword by codeword (R153). -/
theorem exec_decn_frame (r : EncFrame) (j : Nat) (h : j < 32) (s : State) :
    exec (.decn r[j]) s = .next (s.setResult
      (.nibble (decn Config.hammingVariant r[j]) (decfSyndromes Config.hammingVariant r)[j])) := by
  rw [exec_decn, decfSyndromes_getElem]

/-- The parity outcomes of `DECF` are those `PARCHK` answers, codeword by codeword (R153). -/
theorem exec_parchk_frame (r : EncFrame) (j : Nat) (h : j < 32) (s : State) :
    exec (.parchk r[j]) s = .next (s.setResult
      (.parity (decfParity r)[j] (!(decfParity r)[j]) (hasParityFault Config.parityFaultSense r[j]))) := by
  rw [exec_parchk, decfParity_getElem]

/-- Byte i of `DECF` is the nibble of codeword 2i+1 above that of codeword 2i, in the words of R153. -/
theorem decf_lane_eq_shift_or (v : Variant) (r : EncFrame) (i : Nat) (h : i < 16) :
    (decf v r)[i] = ((decn v r[2 * i + 1]).setWidth 8 <<< 4) ||| (decn v r[2 * i]).setWidth 8 := by
  rw [decf_lane v r i h, decb, joinNibbles_eq_shift_or]

/-! ### The obligations -/

/-- Settles O20, from the even and the odd lanes of the encoder. -/
theorem encfEncodesEveryLane : Obligations.EncfEncodesEveryLane := by
  unfold Obligations.EncfEncodesEveryLane
  intro u s
  exact ⟨_, exec_encf u s, fun i => ⟨exec_encn_lowNibble u i i.isLt s, exec_encn_highNibble u i i.isLt s⟩⟩

/-- Settles O21: each byte joins the nibbles of its two codewords, and each codeword has its own syndrome and parity. -/
theorem decfDecodesEveryLane : Obligations.DecfDecodesEveryLane := by
  unfold Obligations.DecfDecodesEveryLane
  intro r s
  refine ⟨_, _, _, exec_decf r s, fun i => ?_, fun j => ⟨_, exec_parchk_frame r j j.isLt s⟩⟩
  exact ⟨_, _, exec_decn_frame r (2 * i.val) _ s, exec_decn_frame r (2 * i.val + 1) _ s,
    decf_lane_eq_shift_or Config.hammingVariant r i i.isLt⟩

end Sys2Proof.Machine
end

section
/-! The keys' effects, what they show and send, and the Controller's rows as operations (43_controller_fsm.md R165 to
R193). -/

namespace Sys2Proof.Machine

open Sys2Proof

/-! ### What a key does to `act` (R170 to R187) -/

/-- A grid key writes its grid point to x and y and leaves the rest of `act` alone (R174 to R182). -/
theorem keyEffect_grid {k : Key} {p : U16 × U16} (h : Config.gridPoint k = some p) (a : Act) :
    keyEffect k a = { a with x := p.1, y := p.2 } := by
  have heffect : effectGrid k a = { a with x := p.1, y := p.2 } := by rw [effectGrid, h]
  rw [← heffect]
  cases k
  case k0 | ka | kb | kc | unrecD | unrecE | unrecF => simp [Config.gridPoint] at h
  all_goals rfl

/-- KA leaves everything of `act` but z alone (R183). -/
theorem effectKA_eq_withZ (a : Act) : effectKA a = { a with z := (effectKA a).z } := by
  unfold effectKA
  split
  · rfl
  · rfl

theorem effectKA_z_toNat (a : Act) :
    (effectKA a).z.toNat = if a.z.toNat < 10 then a.z.toNat else a.z.toNat - 10 := by
  unfold effectKA
  split
  · rfl
  · rw [BitVec.toNat_ofNat]
    omega

/-- KB leaves everything of `act` but z alone (R184). -/
theorem effectKB_eq_withZ (a : Act) : effectKB a = { a with z := (effectKB a).z } := by
  unfold effectKB
  split
  · rfl
  · rfl

/-- The ceiling of 90 never cuts the rise: the guard stops it first (R184, conflict C2). -/
theorem effectKB_z_toNat (a : Act) :
    (effectKB a).z.toNat = if a.z.toNat > 80 then a.z.toNat else a.z.toNat + 10 := by
  unfold effectKB
  split
  · rfl
  · rw [BitVec.toNat_ofNat]
    omega

/-- KC leaves everything of `act` but the angle alone (R185). -/
theorem effectKC_eq_withAngle (a : Act) : effectKC a = { a with angle := (effectKC a).angle } := by
  unfold effectKC
  split
  · rfl
  · rfl

theorem effectKC_angle_toNat (a : Act) :
    (effectKC a).angle.toNat = if a.angle.toNat > 170 then a.angle.toNat else min (a.angle.toNat + 10) 170 := by
  unfold effectKC
  split
  · rfl
  · rw [BitVec.toNat_ofNat]
    omega

/-! ### What a key shows (R188) -/

/-- The cursor of a grid key is its own (D6). -/
theorem displayCommand_grid {k : Key} {p : U16 × U16} (h : Config.gridPoint k = some p) (a : Act) :
    displayCommand k a =
      ⟨(Config.cursorGrid k).1, (Config.cursorGrid k).2, Config.label k a, a.z, a.angle⟩ := by
  simp [displayCommand, h]

/-- The cursor of a key that is no grid key (D6). -/
theorem displayCommand_other {k : Key} (h : Config.gridPoint k = none) (a : Act) :
    displayCommand k a =
      ⟨(Config.cursorOther k a).1, (Config.cursorOther k a).2, Config.label k a, a.z, a.angle⟩ := by
  simp [displayCommand, h]

/-! ### What a key sends (R187, R189) -/

/-- The keys of the XYZ family send the XYZ frame. -/
theorem messageFor_xyz {k : Key} (hk : k ∈ [Key.k1, .k2, .k3, .k4, .k5, .k6, .k7, .k8, .k9, .ka, .kb]) (adr : Address)
    (a : Act) : messageFor adr a k = some (buildXyz adr a.x a.y a.z) := by
  cases k
  case k0 | kc | unrecD | unrecE | unrecF => simp at hk
  all_goals rfl

/-- The grid keys are of the XYZ family. -/
theorem messageFor_grid {k : Key} {p : U16 × U16} (h : Config.gridPoint k = some p) (adr : Address) (a : Act) :
    messageFor adr a k = some (buildXyz adr a.x a.y a.z) := by
  refine messageFor_xyz ?_ adr a
  cases k
  case k0 | ka | kb | kc | unrecD | unrecE | unrecF => simp [Config.gridPoint] at h
  all_goals decide

theorem messageFor_kc (adr : Address) (a : Act) : messageFor adr a .kc = some (buildRot adr a.angle) := rfl

theorem messageFor_k0 (adr : Address) (a : Act) :
    messageFor adr a .k0 = some (if a.on then buildVon adr else buildVoff adr) := rfl

/-- The keys that are not recognised are the three codes above KC (R92). -/
theorem recognised_eq_false_iff (k : Key) :
    Key.recognised k = false ↔ k = .unrecD ∨ k = .unrecE ∨ k = .unrecF := by
  cases k <;> simp [Key.recognised]

/-- The keys that send no frame are those that are not recognised (R187). -/
theorem messageFor_eq_none_iff (adr : Address) (a : Act) (k : Key) :
    messageFor adr a k = none ↔ Key.recognised k = false := by
  cases k <;> simp [messageFor, Key.recognised]

/-- A key that sends a frame is recognised. -/
theorem recognised_of_messageFor {adr : Address} {a : Act} {k : Key} {f : Frame} (h : messageFor adr a k = some f) :
    Key.recognised k = true := by
  refine Bool.eq_true_of_not_eq_false fun hk => ?_
  rw [(messageFor_eq_none_iff adr a k).mpr hk] at h
  cases h

/-! ### The Controller's rows as operations (R166 to R169) -/

theorem exec_cInit {s : State} (h : s.ctrl = .init) : exec .cInit s = .next (s.setCtrl .idle) := execCInit_eq h

theorem exec_lInit {s : State} (h : s.link = .init) : exec .lInit s = .next (s.setLink .idle) := execLInit_eq h

theorem exec_cIdle_none {s : State} (h : s.ctrl = .idle) (hk : s.keyAnswer = none) : exec .cIdle s = .next s :=
  execCIdle_none h hk

theorem exec_cIdle_some {s : State} {k : Key} (h : s.ctrl = .idle) (hk : s.keyAnswer = some k) :
    exec .cIdle s = .next ((s.setKeyAnswer none).acceptKey k) := execCIdle_some h hk

/-- The state after `C_DISPLAYING` has shown the key `k` with the new `act` (R168). -/
def State.shown (s : State) (k : Key) (a : Act) : State :=
  { s with act := a, rendered := s.rendered ++ [displayCommand k a], ctrl := .transmitting }

/-- `C_DISPLAYING` with a recognised key gives `act` the key's effect and shows it (R168). -/
theorem exec_cDisplaying_recognised {s : State} (h : s.ctrl = .displaying) (hk : Key.recognised s.lastKey = true) :
    exec .cDisplaying s = .next (s.shown s.lastKey (keyEffect s.lastKey s.act)) := execCDisplaying_recognised h hk

theorem exec_cDisplaying_unrecognised {s : State} (h : s.ctrl = .displaying) (hk : Key.recognised s.lastKey = false) :
    exec .cDisplaying s = .next (s.setCtrl .transmitting) := execCDisplaying_unrecognised h hk

theorem exec_cTransmitting_push {s : State} {f : Frame} (h : s.ctrl = .transmitting)
    (hf : messageFor s.senderAddr s.act s.lastKey = some f) (hq : s.queue.length < 10) :
    exec .cTransmitting s = .next ((s.setQueue (s.queue ++ [f])).setCtrl .idle) := execCTransmitting_push h hf hq

theorem exec_cTransmitting_unrecognised {s : State} (h : s.ctrl = .transmitting)
    (hk : Key.recognised s.lastKey = false) : exec .cTransmitting s = .next (s.setCtrl .idle) :=
  execCTransmitting_none h ((messageFor_eq_none_iff _ _ _).mpr hk)

/-- A key with the effect `a` that sends `f`: DISPLAYING shows `a`, and TRANSMITTING, with room, pushes `f` (R168,
R189). -/
theorem exec_display_then_push {s : State} {k : Key} {a : Act} {f : Frame} (hc : s.ctrl = .displaying)
    (hk : s.lastKey = k) (heffect : keyEffect k s.act = a) (hf : messageFor s.senderAddr a k = some f) :
    exec .cDisplaying s = .next (s.shown k a) ∧
    (s.queue.length < 10 → exec .cTransmitting (s.shown k a) =
      .next (((s.shown k a).setQueue (s.queue ++ [f])).setCtrl .idle)) := by
  subst hk heffect
  exact ⟨exec_cDisplaying_recognised hc (recognised_of_messageFor hf),
    exec_cTransmitting_push (s := s.shown s.lastKey (keyEffect s.lastKey s.act)) rfl hf⟩

/-! ### Who writes `act` and `last_key` (R193) -/

/-- Waiting for room, or dropping the frame, writes neither `act` nor `last_key`. -/
theorem State.waitOrDrop_act_lastKey (s : State) : s.waitOrDrop.act = s.act ∧ s.waitOrDrop.lastKey = s.lastKey := by
  rcases s.waitOrDrop_cases with ⟨n, _, _, e⟩ | ⟨_, e⟩ <;> rw [e] <;> simp

/-- The Controller's step writes `act` in DISPLAYING only, by the key's effect, and `last_key` in IDLE only. -/
theorem controllerStep_act_lastKey {s t : State} (h : controllerStep s = .next t) :
    (t.act = s.act ∨ (s.ctrl = .displaying ∧ t.act = keyEffect s.lastKey s.act)) ∧
    (t.lastKey = s.lastKey ∨ s.ctrl = .idle) := by
  rcases controllerStep_cases h with ⟨_, rfl⟩ | ⟨_, _, rfl⟩ | ⟨k, hc, _, rfl⟩ | ⟨hc, _, rfl⟩ | ⟨_, _, rfl⟩ |
    ⟨f, _, _, _, rfl⟩ | ⟨f, _, _, _, rfl⟩ | ⟨_, _, rfl⟩
  -- accepting a key writes `last_key`, showing one writes `act`; a full queue waits or drops
  case inr.inr.inl => exact ⟨.inl rfl, .inr hc⟩
  case inr.inr.inr.inl => exact ⟨.inr ⟨hc, rfl⟩, .inl rfl⟩
  case inr.inr.inr.inr.inr.inr.inl => exact s.waitOrDrop_act_lastKey.imp .inl .inl
  all_goals exact ⟨.inl rfl, .inl rfl⟩

/-- A Controller turn writes `act` in DISPLAYING only, by the key's effect, and `last_key` in IDLE only. -/
theorem exec_controllerTurn_act_lastKey {i : Instr} {s t : State} (hi : i ∈ controllerTurns)
    (h : exec i s = .next t) :
    (t.act = s.act ∨ (s.ctrl = .displaying ∧ t.act = keyEffect s.lastKey s.act)) ∧
    (t.lastKey = s.lastKey ∨ s.ctrl = .idle) := by
  rcases exec_controllerTurn_cases hi h with hstep | ⟨k, hc, rfl⟩
  · exact controllerStep_act_lastKey hstep
  · exact ⟨.inl rfl, .inr hc⟩

/-- An operation that is neither a Controller turn nor reset writes neither `act`, nor `last_key`, nor the address. -/
theorem exec_act_lastKey_of_not_controllerTurn {i : Instr} {s t : State} (hi : i ∉ controllerTurns) (hr : i ≠ .reset)
    (h : exec i s = .next t) : t.act = s.act ∧ t.lastKey = s.lastKey ∧ t.senderAddr = s.senderAddr := by
  rcases instr_kind i with hp | hturn | hturn | rfl | rfl
  · obtain ⟨r, e⟩ := exec_pureFunction hp s
    obtain rfl : s.setResult r = t := Host.Outcome.next.inj (e.symm.trans h)
    exact ⟨rfl, rfl, rfl⟩
  · exact absurd hturn hi
  · obtain ⟨hact, -, hkey, -, -, haddr⟩ := State.ctrlSide_eq_iff.mp (exec_radioLinkTurn_ctrlSide_queue hturn h).1
    exact ⟨hact, hkey, haddr⟩
  · obtain rfl : s.setJoinPending true = t := Host.Outcome.next.inj ((exec_joinTrigger s).symm.trans h)
    exact ⟨rfl, rfl, rfl⟩
  · exact absurd rfl hr

/-! ### The obligations -/

/-- Settles O55: only a Controller turn touches `act` and `last_key`, and its two writes are those of DISPLAYING and of
IDLE. -/
theorem actIsWrittenByDisplayingOnly : Obligations.ActIsWrittenByDisplayingOnly := by
  unfold Obligations.ActIsWrittenByDisplayingOnly
  refine ⟨fun i s t hreset h => ?_, fun s => ⟨resetElements s, exec_reset s, rfl, rfl⟩⟩
  by_cases hi : i ∈ controllerTurns
  · obtain ⟨hact, hkey⟩ := exec_controllerTurn_act_lastKey hi h
    obtain ⟨-, -, -, -, -, -, haddr⟩ := State.linkSide_eq_iff.mp (exec_controllerTurn_linkSide_queue hi h).1
    exact ⟨fun hne => ⟨hi, hact.resolve_left hne⟩, fun hne => ⟨hi, hkey.resolve_left hne⟩, haddr⟩
  · obtain ⟨hact, hkey, haddr⟩ := exec_act_lastKey_of_not_controllerTurn hi hreset h
    exact ⟨fun hne => absurd hact hne, fun hne => absurd hkey hne, haddr⟩

/-- Settles O25: a key row is the key's line, which accepts the key in IDLE. -/
theorem keysAreAcceptedInIdle : Obligations.KeysAreAcceptedInIdle := by
  unfold Obligations.KeysAreAcceptedInIdle
  intro p hp s hc
  rw [exec_keyEvent hp, keyLine_idle hc]
  rfl

/-- Settles O27: each listed point is the key's grid point. -/
theorem gridKeysSetTheirGridPoint : Obligations.GridKeysSetTheirGridPoint := by
  unfold Obligations.GridKeysSetTheirGridPoint
  intro p hp
  have hgrid : Config.gridPoint p.1 = some p.2 := by
    revert p
    decide
  intro s hc hk act' dc t
  have hshown : s.shown p.1 act' = t := by rw [State.shown, displayCommand_grid hgrid]
  rw [← hshown]
  exact exec_display_then_push hc hk (keyEffect_grid hgrid s.act) (messageFor_grid hgrid s.senderAddr act')

/-- Settles O28: the new z is that of KA's effect. -/
theorem kaLowersZ : Obligations.KaLowersZ := by
  unfold Obligations.KaLowersZ
  intro s hc hk
  refine ⟨(effectKA s.act).z, effectKA_z_toNat s.act, ?_⟩
  intro act' dc t
  have hshown : s.shown .ka act' = t := by rw [State.shown, displayCommand_other rfl]
  rw [← hshown]
  exact exec_display_then_push hc hk (effectKA_eq_withZ s.act) (messageFor_xyz (by decide) s.senderAddr act')

/-- Settles O29: the new z is that of KB's effect. -/
theorem kbRaisesZ : Obligations.KbRaisesZ := by
  unfold Obligations.KbRaisesZ
  intro s hc hk
  refine ⟨(effectKB s.act).z, effectKB_z_toNat s.act, ?_⟩
  intro act' dc t
  have hshown : s.shown .kb act' = t := by rw [State.shown, displayCommand_other rfl]
  rw [← hshown]
  exact exec_display_then_push hc hk (effectKB_eq_withZ s.act) (messageFor_xyz (by decide) s.senderAddr act')

/-- Settles O30: the new angle is that of KC's effect. -/
theorem kcRaisesTheAngle : Obligations.KcRaisesTheAngle := by
  unfold Obligations.KcRaisesTheAngle
  intro s hc hk
  refine ⟨(effectKC s.act).angle, effectKC_angle_toNat s.act, ?_⟩
  intro act' dc t
  have hshown : s.shown .kc act' = t := by rw [State.shown, displayCommand_other rfl]
  rw [← hshown]
  exact exec_display_then_push hc hk (effectKC_eq_withAngle s.act) (messageFor_kc s.senderAddr act')

/-- Settles O31: the frame is that of the new value of `act.on`. -/
theorem k0TogglesTheActuator : Obligations.K0TogglesTheActuator := by
  unfold Obligations.K0TogglesTheActuator
  intro s hc hk act' dc t
  have hshown : s.shown .k0 act' = t := by rw [State.shown, displayCommand_other rfl]
  have hframe : messageFor s.senderAddr act' .k0 =
      some (if s.act.on then buildVoff s.senderAddr else buildVon s.senderAddr) := by
    rw [messageFor_k0]
    cases hon : s.act.on <;> simp [act', hon]
  rw [← hshown]
  exact exec_display_then_push hc hk rfl hframe

/-- Settles O32, from what the two rows do with a key that is not recognised. -/
theorem unrecognisedKeysHaveNoEffect : Obligations.UnrecognisedKeysHaveNoEffect := by
  unfold Obligations.UnrecognisedKeysHaveNoEffect
  intro k hk s hlast
  have hunrec : Key.recognised s.lastKey = false := by
    rw [recognised_eq_false_iff, hlast]
    simpa using hk
  exact ⟨fun hc => exec_cDisplaying_unrecognised hc hunrec, fun hc => exec_cTransmitting_unrecognised hc hunrec⟩

/-- Settles O33, from the INIT rows of the two state machines. -/
theorem initStepsGoToIdle : Obligations.InitStepsGoToIdle := by
  unfold Obligations.InitStepsGoToIdle
  exact ⟨fun _ h => exec_cInit h, fun _ h => exec_lInit h⟩

/-- Settles O34: the event, if there is one, is accepted. -/
theorem cIdlePollsTheKeypad : Obligations.CIdlePollsTheKeypad := by
  unfold Obligations.CIdlePollsTheKeypad
  intro s hc
  exact ⟨exec_cIdle_none hc, fun k hk => ⟨_, _, exec_cIdle_some hc hk⟩⟩

/-- Settles O35, by whether the key is recognised. -/
theorem cDisplayingRendersOnceAndGoesOn : Obligations.CDisplayingRendersOnceAndGoesOn := by
  unfold Obligations.CDisplayingRendersOnceAndGoesOn
  intro s hc
  simp only [← recognised_eq_false_iff]
  cases hk : Key.recognised s.lastKey with
  | true =>
    refine ⟨_, [_], exec_cDisplaying_recognised hc hk, by simp, ?_⟩
    simp [displayCommand]
  | false =>
    refine ⟨s.act, [], ?_, by simp, by simp⟩
    rw [List.append_nil]
    exact exec_cDisplaying_unrecognised hc hk

/-- Settles O36, from the frame of each family of keys. -/
theorem cTransmittingPushesTheFrame : Obligations.CTransmittingPushesTheFrame := by
  unfold Obligations.CTransmittingPushesTheFrame
  intro s hc hq
  refine ⟨fun hk => ?_, fun hk => ?_, fun hk => ?_⟩
  · exact exec_cTransmitting_push hc (messageFor_xyz hk s.senderAddr s.act) hq
  · exact exec_cTransmitting_push hc (hk ▸ messageFor_kc s.senderAddr s.act) hq
  · exact exec_cTransmitting_push hc (hk ▸ messageFor_k0 s.senderAddr s.act) hq

end Sys2Proof.Machine
end

section
/-! The Radio Link's rows as operations, and the invariant of the reachable states: it holds at reset, and every step of
every agent keeps it (10_state.md R38 to R41; 44_radio_link_fsm.md R212 to R221). -/

namespace Sys2Proof.Machine

open Sys2Proof

/-! ### A whole array after it is written -/

theorem Memory.read_writeVector_ge (m : Memory) {n : Nat} (v : Vector Byte n) {a : Nat} (h : n ≤ a) :
    Memory.read (Memory.writeList m 0 v.toList) a = Memory.read m a := by
  rw [Memory.read_writeVector, dif_neg (Nat.not_lt.mpr h)]

/-- A whole write under a name of its own: all that a later proof asks of the written array. -/
theorem Memory.exists_writeVector (m : Memory) {n : Nat} (v : Vector Byte n) :
    ∃ w, Memory.writeList m 0 v.toList = w ∧ (∀ a : Fin n, Memory.read w a.val = some v[a]) ∧
      ∀ a, n ≤ a → Memory.read w a = Memory.read m a := by
  refine ⟨_, rfl, fun a => ?_, fun a => Memory.read_writeVector_ge m v⟩
  rw [Memory.read_writeVector, dif_pos a.isLt]
  rfl

/-- A vector written over an array no longer than it is all that the array holds. -/
theorem memHolds_writeVector {m : Memory} {n : Nat} (h : ∀ a, n ≤ a → Memory.read m a = none) (v : Vector Byte n) :
    MemHolds (Memory.writeList m 0 v.toList) v := by
  intro a
  by_cases ha : a < n
  · rw [Memory.read_writeVector, dif_pos ha, Vector.getElem?_eq_getElem ha]
  · rw [Memory.read_writeVector, dif_neg ha, h a (Nat.not_lt.mp ha), Vector.getElem?_eq_none (Nat.not_lt.mp ha)]

/-- A write of a whole array keeps the array's size (R26, R27). -/
theorem Memory.read_writeVector_beyond {m : Memory} {n : Nat} (h : ∀ a, n ≤ a → Memory.read m a = none)
    (v : Vector Byte n) : ∀ a, n ≤ a → Memory.read (Memory.writeList m 0 v.toList) a = none :=
  fun a ha => (Memory.read_writeVector_ge m v ha).trans (h a ha)

/-- A read of `link.active` answers what the array holds. -/
theorem State.memRead_active_of_memHolds {s : State} {f : Frame} (h : MemHolds s.active f) :
    s.memRead .active 0 16 = .ok f := by
  rw [State.memRead_active_ok]
  intro i hi
  rw [h i, Vector.getElem?_eq_getElem hi]

/-! ### `act` stays in range (R38) -/

/-- Every grid point has its coordinates among the three of the grid (R173). -/
theorem gridPoint_onGrid {k : Key} {p : U16 × U16} (h : Config.gridPoint k = some p) :
    (p.1 = 0 ∨ p.1 = 75 ∨ p.1 = 150) ∧ (p.2 = 0 ∨ p.2 = 75 ∨ p.2 = 150) := by
  cases k
  all_goals cases h
  all_goals decide

/-- The guard of KA keeps z a multiple of ten (R183). -/
theorem actInRange_effectKA {a : Act} (h : actInRange a) : actInRange (effectKA a) := by
  obtain ⟨hx, hy, hz, hangle⟩ := h
  have hnew : (effectKA a).z.toNat % 10 = 0 ∧ (effectKA a).z.toNat ≤ 90 := by
    rw [effectKA_z_toNat]
    split <;> omega
  rw [effectKA_eq_withZ]
  exact ⟨hx, hy, hnew, hangle⟩

/-- From a multiple of ten, the guard of KB stops z at 90 (R184). -/
theorem actInRange_effectKB {a : Act} (h : actInRange a) : actInRange (effectKB a) := by
  obtain ⟨hx, hy, hz, hangle⟩ := h
  have hnew : (effectKB a).z.toNat % 10 = 0 ∧ (effectKB a).z.toNat ≤ 90 := by
    rw [effectKB_z_toNat]
    split <;> omega
  rw [effectKB_eq_withZ]
  exact ⟨hx, hy, hnew, hangle⟩

/-- The ceiling of KC is itself a multiple of ten (R185). -/
theorem actInRange_effectKC {a : Act} (h : actInRange a) : actInRange (effectKC a) := by
  obtain ⟨hx, hy, hz, hangle⟩ := h
  have hnew : (effectKC a).angle.toNat % 10 = 0 ∧ (effectKC a).angle.toNat ≤ 170 := by
    rw [effectKC_angle_toNat]
    split <;> omega
  rw [effectKC_eq_withAngle]
  exact ⟨hx, hy, hz, hnew⟩

/-- No key takes `act` out of range (R38, R192). -/
theorem actInRange_keyEffect {a : Act} (h : actInRange a) (k : Key) : actInRange (keyEffect k a) := by
  cases hgrid : Config.gridPoint k with
  | some p =>
    obtain ⟨_, _, hz, hangle⟩ := h
    obtain ⟨hx, hy⟩ := gridPoint_onGrid hgrid
    rw [keyEffect_grid hgrid]
    exact ⟨hx, hy, hz, hangle⟩
  | none =>
    cases k
    case ka => exact actInRange_effectKA h
    case kb => exact actInRange_effectKB h
    case kc => exact actInRange_effectKC h
    case k0 | unrecD | unrecE | unrecF => exact h
    all_goals cases hgrid

/-! ### What the Controller pushes (R39, R189) -/

/-- Whatever the key, the frame it sends is one of the Controller's kinds (R39). -/
theorem messageFor_controllerFrame {adr : Address} {a : Act} {k : Key} {f : Frame}
    (h : messageFor adr a k = some f) : ControllerFrame adr f := by
  cases k
  case unrecD | unrecE | unrecF => cases h
  case k0 =>
    cases h
    rw [buildVac]
    split
    · exact .inr (.inr (.inl rfl))
    · exact .inr (.inr (.inr rfl))
  case kc => cases h; exact .inr (.inl ⟨_, rfl⟩)
  all_goals cases h; exact .inl ⟨_, _, _, rfl⟩

/-- The Controller's step leaves the queue alone, or appends the frame of the last key where there is room (R190). -/
theorem controllerStep_queue {s t : State} (h : controllerStep s = .next t) :
    t.queue = s.queue ∨ ∃ f, messageFor s.senderAddr s.act s.lastKey = some f ∧ s.queue.length < 10 ∧
      t.queue = s.queue ++ [f] := by
  rcases controllerStep_cases h with ⟨_, rfl⟩ | ⟨_, _, rfl⟩ | ⟨k, _, _, rfl⟩ | ⟨_, _, rfl⟩ | ⟨_, _, rfl⟩ |
    ⟨f, _, hf, hroom, rfl⟩ | ⟨f, _, _, _, rfl⟩ | ⟨_, _, rfl⟩
  -- only the push with room writes the queue; a full queue waits or drops
  case inr.inr.inr.inr.inr.inl => exact .inr ⟨f, hf, hroom, rfl⟩
  case inr.inr.inr.inr.inr.inr.inl => exact .inl s.waitOrDrop_linkSide_queue.2
  all_goals exact .inl rfl

/-- A Controller turn leaves the queue alone, or appends the frame of the last key where there is room (R190). -/
theorem exec_controllerTurn_queue {i : Instr} {s t : State} (hi : i ∈ controllerTurns) (h : exec i s = .next t) :
    t.queue = s.queue ∨ ∃ f, messageFor s.senderAddr s.act s.lastKey = some f ∧ s.queue.length < 10 ∧
      t.queue = s.queue ++ [f] := by
  rcases exec_controllerTurn_cases hi h with hstep | ⟨k, _, rfl⟩
  · exact controllerStep_queue hstep
  · exact .inl rfl

/-! ### The invariant and the Controller's side -/

/-- What leaves the Radio Link's side alone keeps the invariant, if `act` and the queue meet their parts of it. -/
theorem CoreInv.of_linkSide {s t : State} (hinv : CoreInv s) (h : t.linkSide = s.linkSide) (hact : actInRange t.act)
    (hlength : t.queue.length ≤ 10) (hframes : ∀ f ∈ t.queue, ControllerFrame s.senderAddr f) : CoreInv t := by
  obtain ⟨hlink, hactive, hencoded, -, hprogress, hsent, haddr⟩ := State.linkSide_eq_iff.mp h
  have haccepted : AcceptedFrame t = AcceptedFrame s := by
    funext f
    rw [AcceptedFrame, AcceptedFrame, hprogress, haddr]
  constructor
  case act => exact hact
  case queueLength => exact hlength
  case queueFrames => exact haddr ▸ hframes
  case activeWf => exact hactive ▸ hinv.activeWf
  case encodedWf => exact hencoded ▸ hinv.encodedWf
  case activeSize => exact hactive ▸ hinv.activeSize
  case encodedSize => exact hencoded ▸ hinv.encodedSize
  case encode => rw [hlink, hactive, haccepted]; exact hinv.encode
  case transmit => rw [hlink, hencoded, haccepted]; exact hinv.transmit
  case mark => rw [hlink, hprogress]; exact hinv.mark
  case sentFrames => rw [hsent, haddr]; exact hinv.sentFrames

/-- What leaves the Radio Link's side, `act` and the queue alone keeps the invariant. -/
theorem CoreInv.of_same {s t : State} (hinv : CoreInv s) (h : t.linkSide = s.linkSide) (hact : t.act = s.act)
    (hqueue : t.queue = s.queue) : CoreInv t :=
  hinv.of_linkSide h (hact ▸ hinv.act) (hqueue ▸ hinv.queueLength) (hqueue ▸ hinv.queueFrames)

/-- A Controller turn keeps the invariant: `act` changes by a key's effect only, the queue by a Controller frame. -/
theorem CoreInv.controllerTurn {i : Instr} {s t : State} (hinv : CoreInv s) (hi : i ∈ controllerTurns)
    (h : exec i s = .next t) : CoreInv t := by
  have hside : t.linkSide = s.linkSide := (exec_controllerTurn_linkSide_queue hi h).1
  have hact : actInRange t.act := by
    rcases (exec_controllerTurn_act_lastKey hi h).1 with e | ⟨_, e⟩
    · exact e ▸ hinv.act
    · exact e ▸ actInRange_keyEffect hinv.act s.lastKey
  rcases exec_controllerTurn_queue hi h with e | ⟨f, hf, hroom, e⟩
  · exact hinv.of_linkSide hside hact (e ▸ hinv.queueLength) (e ▸ hinv.queueFrames)
  · refine hinv.of_linkSide hside hact ?_ ?_
    · rw [e, List.length_append, List.length_singleton]
      omega
    · rw [e, List.forall_mem_append, List.forall_mem_singleton]
      exact ⟨hinv.queueFrames, messageFor_controllerFrame hf⟩

/-! ### The invariant and the Radio Link's turns -/

/-- `L_INIT`: the mark is still false (R211, R218). -/
theorem CoreInv.linkStarted {s : State} (hinv : CoreInv s) (hl : s.link = .init) : CoreInv (s.setLink .idle) :=
  { hinv with
    encode := nofun
    transmit := nofun
    mark := fun _ => hinv.mark (.inl hl) }

/-- `L_IDLE` with a trigger: the JOIN frame is written whole, with the mark set (R218, R245). -/
theorem CoreInv.joinAccepted {s : State} {f : Frame} (hinv : CoreInv s) (hf : f = buildJoin s.senderAddr) :
    CoreInv ((((s.setJoinPending false).setActive
      (Memory.writeList s.active 0 f.toList)).setJoinInProgress true).setLink .encode) :=
  { hinv with
    activeWf := Memory.wf_writeList hinv.activeWf 0 _
    activeSize := Memory.read_writeVector_beyond hinv.activeSize _
    encode := fun _ => ⟨f, memHolds_writeVector hinv.activeSize f, .inl ⟨rfl, hf⟩⟩
    transmit := nofun
    mark := nofun }

/-- `L_IDLE` with a frame queued: a Controller frame is written whole, with the mark false (R212, R219). -/
theorem CoreInv.frameAccepted {s : State} {f : Frame} {q : List Frame} (hinv : CoreInv s) (hl : s.link = .idle)
    (hq : s.queue = f :: q) :
    CoreInv (((s.setQueue q).setActive (Memory.writeList s.active 0 f.toList)).setLink .encode) :=
  have hlength : q.length + 1 ≤ 10 := by simpa [hq] using hinv.queueLength
  have hframes : ControllerFrame s.senderAddr f ∧ ∀ g ∈ q, ControllerFrame s.senderAddr g := by
    simpa [hq] using hinv.queueFrames
  { hinv with
    queueLength := Nat.le_of_succ_le hlength
    queueFrames := hframes.2
    activeWf := Memory.wf_writeList hinv.activeWf 0 _
    activeSize := Memory.read_writeVector_beyond hinv.activeSize _
    encode := fun _ => ⟨f, memHolds_writeVector hinv.activeSize f, .inr ⟨hinv.mark (.inr hl), hframes.1⟩⟩
    transmit := nofun
    mark := nofun }

/-- `L_ENCODE`: the frame read is the accepted one, and its encoding is written whole (R213). -/
theorem CoreInv.frameEncoded {s : State} {u : Frame} {e : EncFrame} (hinv : CoreInv s) (hl : s.link = .encode)
    (hu : s.memRead .active 0 16 = .ok u) (he : e = encf Config.hammingVariant u) :
    CoreInv ((s.setEncoded (Memory.writeList s.encoded 0 e.toList)).setLink .transmit) := by
  obtain ⟨f, hholds, haccepted⟩ := hinv.encode hl
  obtain rfl : f = u := Except.ok.inj ((State.memRead_active_of_memHolds hholds).symm.trans hu)
  exact { hinv with
    encodedWf := Memory.wf_writeList hinv.encodedWf 0 _
    encodedSize := Memory.read_writeVector_beyond hinv.encodedSize _
    encode := nofun
    transmit := fun _ => ⟨f, he ▸ memHolds_writeVector hinv.encodedSize e, haccepted⟩
    mark := nofun }

/-- An accepted frame is a JOIN frame or one of the Controller's (R218). -/
theorem AcceptedFrame.join_or_controller {s : State} {f : Frame} (h : AcceptedFrame s f) :
    f = buildJoin s.senderAddr ∨ ControllerFrame s.senderAddr f :=
  h.imp And.right And.right

/-- `L_TRANSMIT`: what is sent is the encoding of the accepted frame, and the mark is cleared (R214, R221). -/
theorem CoreInv.frameSent {s : State} {e : EncFrame} (hinv : CoreInv s) (hl : s.link = .transmit)
    (he : s.memRead .encoded 0 32 = .ok e) :
    CoreInv (((s.setSent (s.sent ++ [e])).setJoinInProgress false).setLink .idle) := by
  obtain ⟨f, hholds, haccepted⟩ := hinv.transmit hl
  have hsent : encf Config.hammingVariant f = e :=
    Except.ok.inj ((State.memRead_encoded_of_memHolds hholds).symm.trans he)
  exact { hinv with
    encode := nofun
    transmit := nofun
    mark := fun _ => rfl
    sentFrames := List.forall_mem_append.mpr
      ⟨hinv.sentFrames, List.forall_mem_singleton.mpr ⟨f, haccepted.join_or_controller, hsent.symm⟩⟩ }

/-- A Radio Link turn keeps the invariant. -/
theorem CoreInv.radioLinkTurn {i : Instr} {s t : State} (hinv : CoreInv s) (hi : i ∈ radioLinkTurns)
    (h : exec i s = .next t) : CoreInv t := by
  rcases execLRow_cases (by simpa [radioLinkTurns] using hi) h with ⟨hl, rfl⟩ | ⟨_, _, rfl⟩ | ⟨f, q, hl, _, hq, rfl⟩ |
    ⟨_, _, _, rfl⟩ | ⟨u, hl, hu, rfl⟩ | ⟨e, hl, he, rfl⟩
  · exact hinv.linkStarted hl
  · exact hinv.joinAccepted rfl
  · exact hinv.frameAccepted hl hq
  · exact hinv
  · exact hinv.frameEncoded hl hu rfl
  · exact hinv.frameSent hl he

/-! ### The invariant and the events -/

/-- `JOIN_TRIGGER` writes an element that the invariant does not speak of (R65). -/
theorem CoreInv.joinTriggered {s : State} (hinv : CoreInv s) : CoreInv (s.setJoinPending true) := { hinv with }

/-- With every element at its reset value, the invariant asks for the record of sends only, which reset leaves alone (R40;
log entry 13). -/
theorem coreInv_resetElements {s : State} (hsent : ∀ e ∈ s.sent, ∃ f,
    (f = buildJoin s.senderAddr ∨ ControllerFrame s.senderAddr f) ∧ e = encf Config.hammingVariant f) :
    CoreInv (resetElements s) where
  act := show actInRange State.reset.act by decide
  queueLength := Nat.zero_le _
  queueFrames := nofun
  activeWf := State.reset_memory_wf.1
  encodedWf := State.reset_memory_wf.2
  activeSize _ _ := rfl
  encodedSize _ _ := rfl
  encode := nofun
  transmit := nofun
  mark _ := rfl
  sentFrames := hsent

/-! ### The invariant and a whole step -/

/-- Every operation keeps the invariant, by its kind. -/
theorem CoreInv.of_exec {i : Instr} {s t : State} (hinv : CoreInv s) (h : exec i s = .next t) : CoreInv t := by
  rcases instr_kind i with hi | hi | hi | rfl | rfl
  · obtain ⟨r, hr⟩ := exec_pureFunction hi s
    obtain rfl : s.setResult r = t := Host.Outcome.next.inj (hr.symm.trans h)
    exact hinv.of_same rfl rfl rfl
  · exact hinv.controllerTurn hi h
  · exact hinv.radioLinkTurn hi h
  · obtain rfl : s.setJoinPending true = t := Host.Outcome.next.inj ((exec_joinTrigger s).symm.trans h)
    exact hinv.joinTriggered
  · obtain rfl : resetElements s = t := Host.Outcome.next.inj ((exec_reset s).symm.trans h)
    exact coreInv_resetElements hinv.sentFrames

/-- Taking a choice and its inputs writes nothing that the invariant speaks of (R285). -/
theorem CoreInv.of_fetch {s : State} (hinv : CoreInv s) : CoreInv (fetch s).2 := by
  have htaken : CoreInv (takeStimulus s).2 := by
    rw [takeStimulus_state]
    exact hinv.of_same rfl rfl rfl
  have hpresented (st : Stimulus) {s' : State} (h : CoreInv s') : CoreInv (presentInputs st s') := by
    cases st with
    | ctrl k expired => exact h.of_same rfl rfl rfl
    | link | join | rst | use w => exact h
  exact hpresented _ htaken

/-- A step with a next state ran the operation that its word decodes to. -/
theorem step_next {s t : State} (h : step s = .next t) :
    ∃ i, decode (fetch s).1 = .ok i ∧ exec i (fetch s).2 = .next t := by
  unfold step at h
  cases hi : decode (fetch s).1 with
  | ok i => exact ⟨i, rfl, by simpa [hi] using h⟩
  | error e => simp [hi] at h

/-! ### The obligations -/

/-- Settles O51: a step fetches, which writes nothing the invariant speaks of, and runs one operation. -/
theorem everyStepKeepsInv : Obligations.EveryStepKeepsInv := by
  unfold Obligations.EveryStepKeepsInv
  intro s t hinv h
  obtain ⟨i, -, hexec⟩ := step_next h
  exact hinv.of_fetch.of_exec hexec

/-- Settles O50: the reset state is its own reset, with nothing sent. -/
theorem invHoldsAtReset : Obligations.InvHoldsAtReset := by
  unfold Obligations.InvHoldsAtReset
  exact coreInv_resetElements (s := State.reset) nofun

/-- Settles O42, from the three cases of `L_IDLE` and what a whole write leaves in `link.active`. -/
theorem lIdleTakesTheTriggerThenTheQueue : Obligations.LIdleTakesTheTriggerThenTheQueue := by
  unfold Obligations.LIdleTakesTheTriggerThenTheQueue
  intro s hl
  refine ⟨fun hj => ?_, fun f q hj hq => ?_, execLIdle_empty hl⟩
  · obtain ⟨m, hm, hwritten, hrest⟩ := Memory.exists_writeVector s.active (buildJoin s.senderAddr)
    have hexec := execLIdle_join hl hj
    rw [hm] at hexec
    exact ⟨m, hexec, hwritten, hrest⟩
  · obtain ⟨m, hm, hwritten, hrest⟩ := Memory.exists_writeVector s.active f
    have hexec := execLIdle_frame hl hj hq
    rw [hm] at hexec
    exact ⟨m, hexec, hwritten, hrest⟩

/-- Settles O43: the 16 bytes read are the frame's, and its encoding is written whole. -/
theorem lEncodeEncodesTheActiveFrame : Obligations.LEncodeEncodesTheActiveFrame := by
  unfold Obligations.LEncodeEncodesTheActiveFrame
  intro s u hl hbytes
  have hu : s.memRead .active 0 16 = .ok u := State.memRead_active_ok.mpr fun i hi => hbytes ⟨i, hi⟩
  obtain ⟨m, hm, hwritten, hrest⟩ := Memory.exists_writeVector s.encoded (encf Config.hammingVariant u)
  have hexec := execLEncode_eq hl hu
  rw [hm] at hexec
  exact ⟨m, _, exec_encf u s, hexec, hwritten, hrest⟩

/-- Settles O44: the 32 bytes read are those sent. -/
theorem lTransmitSendsTheEncodedFrame : Obligations.LTransmitSendsTheEncodedFrame := by
  unfold Obligations.LTransmitSendsTheEncodedFrame
  intro s e hl hbytes
  have he : s.memRead .encoded 0 32 = .ok e := State.memRead_encoded_ok.mpr fun i hi => hbytes ⟨i, hi⟩
  exact execLTransmit_eq hl he

end Sys2Proof.Machine
end

section
/-! A step runs the operation that its choice presents, and with the invariant every step of an agent completes
(60_exceptions.md R235, R258; 70_reset_and_hazards.md R285). -/

namespace Sys2Proof.Machine

open Sys2Proof

/-! ### Fetching a choice (R285) -/

/-- A word that decodes is run in the state that the fetch leaves. -/
theorem step_of_decode {s : State} {i : Instr} (h : decode (fetch s).1 = .ok i) : step s = exec i (fetch s).2 := by
  simp [step, h]

theorem fetch_placed {s : State} {st : Stimulus} {rest : List Stimulus} (h : s.stimulus = st :: rest) :
    fetch s = (fetchWord st (presentInputs st (s.setStimulus rest)), presentInputs st (s.setStimulus rest)) := by
  simp [fetch, takeStimulus, h]

/-- With no choice placed, the fetch is that of the state in which the free choice of this tick is placed. -/
theorem fetch_free {s : State} (h : s.stimulus = []) :
    fetch s = fetch { s with stimulus := [Config.environment s.tick], tick := s.tick + 1 } := by
  have htaken : takeStimulus s =
      takeStimulus { s with stimulus := [Config.environment s.tick], tick := s.tick + 1 } := by
    simp [takeStimulus, h, State.setTick, State.setStimulus]
  simp only [fetch, htaken]

/-- A placed choice is taken off the list, and the operation its word decodes to is run with its inputs set. -/
theorem step_placed {s : State} {st : Stimulus} {rest : List Stimulus} {i : Instr} (h : s.stimulus = st :: rest)
    (hi : decode (fetchWord st (presentInputs st (s.setStimulus rest))) = .ok i) :
    step s = exec i (presentInputs st (s.setStimulus rest)) := by
  have hfetch := fetch_placed h
  rw [step_of_decode (i := i) (by rw [hfetch]; exact hi), hfetch]

/-! ### What the word of each choice decodes to (R74, R75, R97) -/

theorem decodeCtrlState_code (s : State) : decodeCtrlState s.ctrl.code = selectedCtrlRow s := by
  unfold selectedCtrlRow
  cases s.ctrl <;> rfl

theorem decodeLinkState_code (s : State) : decodeLinkState s.link.code = selectedLinkRow s := by
  unfold selectedLinkRow
  cases s.link <;> rfl

/-- The key events are the keys with the operations of their codes (R74). -/
theorem mem_keyEvents_iff {k : Key} {i : Instr} : (k, i) ∈ keyEvents ↔ decodeKey k.code = i := by
  constructor
  · have hcodes : ∀ p ∈ keyEvents, decodeKey p.1.code = p.2 := by decide
    exact hcodes (k, i)
  · rintro rfl
    cases k <;> decide

theorem decode_ctrlWord (expired : Bool) (s : State) :
    decode (fetchWord (.ctrl none expired) s) = .ok (selectedCtrlRow s) := by
  rw [fetchWord, decode_ctrlStateWord, decodeCtrlState_code]

theorem decode_keyEventWord {k : Key} {i : Instr} (hk : (k, i) ∈ keyEvents) (expired : Bool) (s : State) :
    decode (fetchWord (.ctrl (some k) expired) s) = .ok i := by
  rw [fetchWord, decode_keyWord, mem_keyEvents_iff.mp hk]

theorem decode_linkWord (s : State) : decode (fetchWord .link s) = .ok (selectedLinkRow s) := by
  rw [fetchWord, decode_linkStateWord, decodeLinkState_code]

theorem decode_joinWord (s : State) : decode (fetchWord .join s) = .ok .joinTrigger := rfl

theorem decode_rstWord (s : State) : decode (fetchWord .rst s) = .ok .reset := rfl

/-- Settles O57: each kind of choice by what its word decodes to, and the free choice by its fetch. -/
theorem stepRunsTheDecodedInstruction : Obligations.StepRunsTheDecodedInstruction := by
  unfold Obligations.StepRunsTheDecodedInstruction
  intro s rest
  refine ⟨?use, ?ctrl, ?key, ?link, ?join, ?rst, ?free⟩
  case use =>
    intro w i h hi _
    exact step_placed h hi
  case ctrl =>
    intro expired h
    exact step_placed h (decode_ctrlWord expired _)
  case key =>
    intro p hp expired h
    exact step_placed h (decode_keyEventWord hp expired _)
  case link =>
    intro h
    exact step_placed h (decode_linkWord _)
  case join =>
    intro h
    exact step_placed h (decode_joinWord _)
  case rst =>
    intro h
    exact step_placed h (decode_rstWord _)
  case free =>
    intro h
    rw [step, step, fetch_free h]

/-! ### Every turn and every event completes (R235) -/

/-- The row that `ctrl_state` selects is the Controller's step (R165). -/
theorem exec_selectedCtrlRow (s : State) : exec (selectedCtrlRow s) s = controllerStep s := by
  unfold selectedCtrlRow controllerStep
  cases s.ctrl <;> rfl

/-- A key's line always has a next state: the key is accepted, or the Controller takes its step (R97). -/
theorem keyLine_completes (k : Key) (s : State) : Completes (keyLine k s) := by
  by_cases hc : s.ctrl = .idle
  · exact ⟨_, keyLine_idle hc k⟩
  · rw [keyLine_other hc]
    exact controllerStep_next s

/-- In IDLE the Radio Link always has a next state: the trigger, the head of the queue, or nothing (R212). -/
theorem execLIdle_completes {s : State} (hl : s.link = .idle) : Completes (execLIdle s) := by
  cases hj : s.joinPending with
  | true => exact ⟨_, execLIdle_join hl hj⟩
  | false =>
    cases hq : s.queue with
    | nil => exact ⟨_, execLIdle_empty hl hj hq⟩
    | cons f q => exact ⟨_, execLIdle_frame hl hj hq⟩

/-- With the invariant, the row that `link_state` selects has a next state: what ENCODE and TRANSMIT read has been written
whole (R41, R219). -/
theorem CoreInv.selectedLinkRow_completes {s : State} (hinv : CoreInv s) : Completes (exec (selectedLinkRow s) s) := by
  unfold selectedLinkRow
  cases hl : s.link with
  | init => exact ⟨_, execLInit_eq hl⟩
  | idle => exact execLIdle_completes hl
  | encode =>
    obtain ⟨f, hholds, -⟩ := hinv.encode hl
    exact ⟨_, execLEncode_eq hl (State.memRead_active_of_memHolds hholds)⟩
  | transmit =>
    obtain ⟨f, hholds, -⟩ := hinv.transmit hl
    exact ⟨_, execLTransmit_eq hl (State.memRead_encoded_of_memHolds hholds)⟩

/-- With the invariant, every choice but a use presents an operation that has a next state. -/
theorem CoreInv.choice_completes {s : State} (hinv : CoreInv s) {st : Stimulus} (hst : ∀ w, st ≠ .use w) :
    ∃ i, decode (fetchWord st s) = .ok i ∧ Completes (exec i s) := by
  cases st with
  | ctrl key expired =>
    cases key with
    | none => exact ⟨_, decode_ctrlWord expired s, exec_selectedCtrlRow s ▸ controllerStep_next s⟩
    | some k =>
      have hk : (k, decodeKey k.code) ∈ keyEvents := mem_keyEvents_iff.mpr rfl
      exact ⟨_, decode_keyEventWord hk expired s, exec_keyEvent hk s ▸ keyLine_completes k s⟩
  | link => exact ⟨_, decode_linkWord s, hinv.selectedLinkRow_completes⟩
  | join => exact ⟨_, decode_joinWord s, _, exec_joinTrigger s⟩
  | rst => exact ⟨_, decode_rstWord s, _, exec_reset s⟩
  | use w => exact absurd rfl (hst w)

/-- Settles O52: the fetch keeps the invariant, so what the choice presents has a next state. -/
theorem everyAgentStepCompletes : Obligations.EveryAgentStepCompletes := by
  unfold Obligations.EveryAgentStepCompletes
  intro s hinv hchoice
  obtain ⟨i, hi, hcompletes⟩ := hinv.of_fetch.choice_completes hchoice
  rw [step_of_decode hi]
  exact hcompletes

end Sys2Proof.Machine
end

section
/-! In a quiescent state the only enabled steps are IDLE steps, and they change nothing (70_reset_and_hazards.md R285,
R289). -/

namespace Sys2Proof.Machine

open Sys2Proof

/-! ### States that differ by choices taken only (log entries 3 and 7) -/

/-- `t` is `s` but for the choices to come, the count of free ones and the input of the wait. -/
def State.SameButChoices (s t : State) : Prop :=
  t = { s with stimulus := t.stimulus, tick := t.tick, waitExpired := t.waitExpired }

theorem State.SameButChoices.refl (s : State) : s.SameButChoices s := rfl

theorem State.SameButChoices.trans {s t u : State} (hst : s.SameButChoices t) (htu : t.SameButChoices u) :
    s.SameButChoices u := by
  unfold State.SameButChoices at *
  rw [hst] at htu
  exact htu

theorem takeStimulus_sameButChoices (s : State) : s.SameButChoices (takeStimulus s).2 := by
  rw [takeStimulus_state]
  rfl

/-- With no key answer left over, presenting a choice writes the input of the wait at most (R285). -/
theorem presentInputs_sameButChoices {s : State} (h : s.keyAnswer = none) (st : Stimulus) :
    s.SameButChoices (presentInputs st s) := by
  cases st with
  | ctrl key expired => simp [State.SameButChoices, presentInputs, State.setKeyAnswer, State.setWaitExpired, ← h]
  | link | join | rst | use w => exact .refl s

theorem fetch_sameButChoices {s : State} (h : s.keyAnswer = none) : s.SameButChoices (fetch s).2 := by
  have htaken := takeStimulus_sameButChoices s
  have hkey : (takeStimulus s).2.keyAnswer = none := by rw [htaken]; exact h
  exact htaken.trans (presentInputs_sameButChoices hkey _)

/-- Presenting a choice leaves the choices to come as they are. -/
theorem upcomingChoice_presentInputs (st : Stimulus) (s : State) (k : Nat) :
    upcomingChoice (presentInputs st s) k = upcomingChoice s k := by
  cases st <;> rfl

/-! ### One step of a quiescent state -/

/-- Being quiescent reads, besides the choices to come, nothing that taking choices writes. -/
theorem QuiescentFor.of_sameButChoices {n m : Nat} {s t : State} (hs : QuiescentFor n s) (hst : s.SameButChoices t)
    (hoffers : ∀ k < m, offersNothing (upcomingChoice t k) = true) : QuiescentFor m t := by
  obtain ⟨hctrl, hlink, hqueue, hjoin, hkey, -⟩ := hs
  refine ⟨?_, ?_, ?_, ?_, ?_, hoffers⟩ <;> rw [hst] <;> assumption

theorem QuiescentFor.selectedCtrlRow {n : Nat} {s : State} (hs : QuiescentFor n s) : selectedCtrlRow s = .cIdle := by
  simp [Machine.selectedCtrlRow, hs.ctrl]

theorem QuiescentFor.selectedLinkRow {n : Nat} {s : State} (hs : QuiescentFor n s) : selectedLinkRow s = .lIdle := by
  simp [Machine.selectedLinkRow, hs.link]

/-- No key is answered, so the Controller stays (R167). -/
theorem QuiescentFor.exec_cIdle {n : Nat} {s : State} (hs : QuiescentFor n s) : exec .cIdle s = .next s :=
  exec_cIdle_none hs.ctrl hs.keyAnswer

/-- No trigger is pending and no frame is queued, so the Radio Link stays (R212, R216). -/
theorem QuiescentFor.exec_lIdle {n : Nat} {s : State} (hs : QuiescentFor n s) : exec .lIdle s = .next s :=
  execLIdle_empty hs.link hs.joinPending hs.queue

/-- Taking one choice of those that offer nothing leaves a state that is quiescent for the others. -/
theorem QuiescentFor.fetch {n : Nat} {s : State} (hs : QuiescentFor (n + 1) s) : QuiescentFor n (fetch s).2 := by
  refine hs.of_sameButChoices (fetch_sameButChoices hs.keyAnswer) fun k hk => ?_
  have hnext : upcomingChoice (Machine.fetch s).2 k = upcomingChoice s (k + 1) :=
    (upcomingChoice_presentInputs ..).trans (upcomingChoice_takeStimulus s k)
  rw [hnext]
  exact hs.offers (k + 1) (by omega)

/-- A choice that offers nothing presents the row that one of the two state registers selects (R87). -/
theorem decode_fetchWord_of_offersNothing {st : Stimulus} (hst : offersNothing st = true) (s : State) :
    decode (fetchWord st s) = .ok (selectedCtrlRow s) ∨ decode (fetchWord st s) = .ok (selectedLinkRow s) := by
  cases st with
  | ctrl key expired =>
    cases key with
    | none => exact .inl (decode_ctrlWord expired s)
    | some k => cases hst
  | link => exact .inr (decode_linkWord s)
  | join | rst | use w => cases hst

/-- The only enabled steps are the IDLE steps (R289). -/
theorem QuiescentFor.decode_fetch {n : Nat} {s : State} (hs : QuiescentFor (n + 1) s) :
    decode (Machine.fetch s).1 = .ok .cIdle ∨ decode (Machine.fetch s).1 = .ok .lIdle := by
  have hoffers : offersNothing (takeStimulus s).1 = true := takeStimulus_choice s ▸ hs.offers 0 n.succ_pos
  rw [← hs.fetch.selectedCtrlRow, ← hs.fetch.selectedLinkRow]
  exact decode_fetchWord_of_offersNothing hoffers _

/-- A step takes its choice and changes nothing else (R289). -/
theorem QuiescentFor.step {n : Nat} {s : State} (hs : QuiescentFor (n + 1) s) :
    step s = .next (Machine.fetch s).2 := by
  rcases hs.decode_fetch with hi | hi
  · exact (step_of_decode hi).trans hs.fetch.exec_cIdle
  · exact (step_of_decode hi).trans hs.fetch.exec_lIdle

/-! ### Runs -/

/-- A run goes on from the state that its first step leaves. -/
theorem run_succ_of_step {M : Host.Core} {s t : M.State} (h : M.step s = .next t) (k : Nat) :
    M.run (k + 1) s = M.run k t := by
  rw [Host.Core.run, h]

/-- Each of the steps leaves all but the choices as it was, and the state quiescent for the choices that remain. -/
theorem QuiescentFor.run {n k : Nat} {s : State} (hk : k ≤ n) (hs : QuiescentFor n s) :
    ∃ t : State, Host.Core.run core k s = .next t ∧ s.SameButChoices t ∧ QuiescentFor (n - k) t := by
  induction k generalizing n s with
  | zero => exact ⟨s, rfl, .refl s, hs⟩
  | succ k ih =>
    obtain ⟨m, rfl⟩ : ∃ m, n = m + 1 := ⟨n - 1, by omega⟩
    obtain ⟨t, hrun, hsame, ht⟩ := ih (Nat.le_of_succ_le_succ hk) hs.fetch
    refine ⟨t, (run_succ_of_step (M := core) hs.step k).trans hrun, (fetch_sameButChoices hs.keyAnswer).trans hsame, ?_⟩
    rwa [Nat.add_sub_add_right]

/-- Settles O60: each step runs one of the two IDLE rows, which change nothing, so a run only takes its choices. -/
theorem quiescentStatesStay : Obligations.QuiescentStatesStay := by
  unfold Obligations.QuiescentStatesStay
  intro n s hs
  refine ⟨hs.selectedCtrlRow, hs.selectedLinkRow, hs.exec_cIdle, hs.exec_lIdle, fun hn => ?_, fun k hk => hs.run hk⟩
  obtain ⟨m, rfl⟩ := Nat.exists_eq_succ_of_ne_zero hn.ne'
  exact hs.decode_fetch

end Sys2Proof.Machine
end

section
/-! The decoder inverts the encoder on the well-formed operations, and so the builders tell reachable values apart
(30_encoding.md R70 to R94; 41_frame_builder.md R144). -/

namespace Sys2Proof.Machine

open Sys2Proof

/-! ### A builder's word is its frame (R76, log entry 18) -/

theorem address_toList (a : Address) : a.toList = [a[0], a[1], a[2], a[3]] :=
  List.ext_getElem (by simp) fun k hk _ => by
    have hk : k < 4 := by simpa using hk
    interval_cases k <;> simp

theorem encode_buildXyz (a : Address) (x y : U16) (z : Byte) :
    encode (.buildXyz a x y z) = ⟨.frame, (buildXyz a x y z).toList⟩ := by
  rw [encode, frameWord, address_toList]
  rfl

theorem encode_buildRot (a : Address) (angle : Byte) :
    encode (.buildRot a angle) = ⟨.frame, (buildRot a angle).toList⟩ := by
  rw [encode, frameWord, address_toList]
  rfl

theorem encode_buildVon (a : Address) : encode (.buildVon a) = ⟨.frame, (buildVon a).toList⟩ := by
  rw [encode, frameWord, address_toList]
  rfl

theorem encode_buildVoff (a : Address) : encode (.buildVoff a) = ⟨.frame, (buildVoff a).toList⟩ := by
  rw [encode, frameWord, address_toList]
  rfl

theorem encode_buildJoin (a : Address) : encode (.buildJoin a) = ⟨.frame, (buildJoin a).toList⟩ := by
  rw [encode, frameWord, address_toList]
  rfl

/-! ### The operands read back from a frame's fields (R77, R78) -/

@[simp] theorem frameAddress_assemble (t : Byte) (a : Address) (p : Vector Byte 11) :
    frameAddress (assemble t a p) = a := by
  ext k hk
  interval_cases k <;> rfl

/-- Three digits hold a value below 1000 exactly (R130). -/
theorem threeDigitsValue_threeDigits {v : Nat} (h : v < 1000) :
    threeDigitsValue (threeDigits v).1 (threeDigits v).2.1 (threeDigits v).2.2 = v := by
  simp only [threeDigitsValue, threeDigits, digitValue_asciiDigit]
  omega

/-- Two digits hold a value below 100 exactly (R131). -/
theorem twoDigitsValue_twoDigits {v : Nat} (h : v < 100) :
    twoDigitsValue (twoDigits v).1 (twoDigits v).2 = v := by
  simp only [twoDigitsValue, twoDigits, digitValue_asciiDigit]
  omega

/-- Every u8 has at most three digits, so an angle is read back whatever its value (R78). -/
theorem angleValue_threeDigits (v : Byte) :
    angleValue (threeDigitsValue (threeDigits v.toNat).1 (threeDigits v.toNat).2.1 (threeDigits v.toNat).2.2) = v := by
  rw [threeDigitsValue_threeDigits (by omega), angleValue, if_pos v.isLt, BitVec.ofNat_toNat, BitVec.setWidth_eq]

theorem layoutOperation_buildXyz (a : Address) {x y : U16} {z : Byte} (hx : x.toNat < 1000) (hy : y.toNat < 1000)
    (hz : z.toNat < 100) : layoutOperation (buildXyz a x y z) .xyz = .buildXyz a x y z := by
  have hfields : layoutOperation (buildXyz a x y z) .xyz = .buildXyz (frameAddress (buildXyz a x y z))
      (BitVec.ofNat 16 (threeDigitsValue (threeDigits x.toNat).1 (threeDigits x.toNat).2.1 (threeDigits x.toNat).2.2))
      (BitVec.ofNat 16 (threeDigitsValue (threeDigits y.toNat).1 (threeDigits y.toNat).2.1 (threeDigits y.toNat).2.2))
      (BitVec.ofNat 8 (twoDigitsValue (twoDigits z.toNat).1 (twoDigits z.toNat).2)) := rfl
  rw [hfields, threeDigitsValue_threeDigits hx, threeDigitsValue_threeDigits hy, twoDigitsValue_twoDigits hz,
    buildXyz, frameAddress_assemble]
  simp

theorem layoutOperation_buildRot (a : Address) (angle : Byte) :
    layoutOperation (buildRot a angle) .rot = .buildRot a angle := by
  have hfields : layoutOperation (buildRot a angle) .rot = .buildRot (frameAddress (buildRot a angle))
      (angleValue (threeDigitsValue (threeDigits angle.toNat).1 (threeDigits angle.toNat).2.1
        (threeDigits angle.toNat).2.2)) := rfl
  rw [hfields, angleValue_threeDigits, buildRot, frameAddress_assemble]

/-! ### Each kind of word is decoded to the operation it encodes -/

theorem decode_encode_buildXyz (a : Address) {x y : U16} {z : Byte} (hx : x.toNat < 1000) (hy : y.toNat < 1000)
    (hz : z.toNat < 100) : decode (encode (.buildXyz a x y z)) = .ok (.buildXyz a x y z) := by
  have hdigits : ∀ k : Fin 8, (buildXyz a x y z)[8 + k.val].extractLsb' 4 4 = 0x3 := by
    intro k
    fin_cases k <;> exact asciiDigit_highNibble ..
  rw [encode_buildXyz, decode_xyzFrame (frameLayout_xyz rfl rfl rfl rfl) hdigits, layoutOperation_buildXyz a hx hy hz]

theorem decode_encode_buildRot (a : Address) (angle : Byte) :
    decode (encode (.buildRot a angle)) = .ok (.buildRot a angle) := by
  have hdigits : ∀ k : Fin 3, (buildRot a angle)[8 + k.val].extractLsb' 4 4 = 0x3 := by
    intro k
    fin_cases k <;> exact asciiDigit_highNibble ..
  have hzero : ∀ k : Fin 5, (buildRot a angle)[11 + k.val] = 0x00 := by
    intro k
    fin_cases k <;> rfl
  rw [encode_buildRot, decode_rotFrame (frameLayout_rot rfl rfl rfl rfl) hdigits hzero, layoutOperation_buildRot]

theorem decode_encode_buildVon (a : Address) : decode (encode (.buildVon a)) = .ok (.buildVon a) := by
  rw [encode_buildVon, decode_frame_of_layout (l := .von) rfl rfl, layoutOperation, buildVon, frameAddress_assemble]

theorem decode_encode_buildVoff (a : Address) : decode (encode (.buildVoff a)) = .ok (.buildVoff a) := by
  rw [encode_buildVoff, decode_frame_of_layout (l := .voff) rfl rfl, layoutOperation, buildVoff, frameAddress_assemble]

theorem decode_encode_buildJoin (a : Address) : decode (encode (.buildJoin a)) = .ok (.buildJoin a) := by
  rw [encode_buildJoin, decode_frame_of_layout (l := .join) rfl rfl, layoutOperation, buildJoin, frameAddress_assemble]

/-- The bit of `BUILD_VAC` stands before the address (log entry 18). -/
theorem decode_encode_buildVac (a : Address) (on : Bool) :
    decode (encode (.buildVac a on)) = .ok (.buildVac a on) := by
  have haddress : #v[a[0], a[1], a[2], a[3]] = a := by
    ext k hk
    interval_cases k <;> rfl
  rw [encode, address_toList]
  cases on with
  | false => exact congrArg (fun b => Except.ok (Instr.buildVac b false)) haddress
  | true => exact congrArg (fun b => Except.ok (Instr.buildVac b true)) haddress

theorem decode_encode_encn (n : Nibble) : decode (encode (.encn n)) = .ok (.encn n) := by
  simp [encode, decode, oneField, oneByte]

/-- A 16-bit number is given low byte first (log entry 2). -/
theorem decode_encode_dig3 (v : U16) : decode (encode (.dig3 v)) = .ok (.dig3 v) := by
  have hbytes : (v >>> 8).setWidth 8 ++ v.setWidth 8 = (v : BitVec (8 + 8)) := by
    refine BitVec.eq_of_getLsbD_eq fun k hk => ?_
    rw [BitVec.getLsbD_append]
    split
    · simp [*]
    · simp [show k - 8 < 8 by omega, show 8 + (k - 8) = k by omega]
  exact congrArg (fun w => Except.ok (Instr.dig3 w)) hbytes

theorem decode_encode_encf (u : Frame) : decode (encode (.encf u)) = .ok (.encf u) := by
  simp [encode, decode]

theorem decode_encode_decf (r : EncFrame) : decode (encode (.decf r)) = .ok (.decf r) := by
  simp [encode, decode]

/-- Settles O59, by the kind of the operation: a word of whole bytes is read back as it stands, and the words of packed
operands have their lemmas above. -/
theorem decodeInvertsEncode : Obligations.DecodeInvertsEncode := by
  unfold Obligations.DecodeInvertsEncode
  intro i hi
  cases i
  case encn n => exact decode_encode_encn n
  case dig3 v => exact decode_encode_dig3 v
  case buildXyz a x y z =>
    obtain ⟨⟨hx, hy⟩, hz⟩ : (x.toNat < 1000 ∧ y.toNat < 1000) ∧ z.toNat < 100 := by
      simpa [Instr.wellFormed, fitsThreeDigits, fitsTwoDigits] using hi
    exact decode_encode_buildXyz a hx hy hz
  case buildRot a angle => exact decode_encode_buildRot a angle
  case buildVon a => exact decode_encode_buildVon a
  case buildVoff a => exact decode_encode_buildVoff a
  case buildVac a on => exact decode_encode_buildVac a on
  case buildJoin a => exact decode_encode_buildJoin a
  case encf u => exact decode_encode_encf u
  case decf r => exact decode_encode_decf r
  all_goals rfl

/-- Settles O18: on reachable values the frame is the word of a well-formed operation, which decodes to it. -/
theorem buildersAreInjectiveOnReachableValues : Obligations.BuildersAreInjectiveOnReachableValues := by
  unfold Obligations.BuildersAreInjectiveOnReachableValues
  intro a p q hp hq
  have hxyz {r : Act} (hr : actInRange r) :
      decode ⟨.frame, (buildXyz a r.x r.y r.z).toList⟩ = .ok (.buildXyz a r.x r.y r.z) := by
    obtain ⟨hx, hy, ⟨-, hz⟩, -⟩ := hr
    rw [← encode_buildXyz]
    refine decode_encode_buildXyz a ?_ ?_ (by omega)
    · rcases hx with h | h | h <;> simp [h]
    · rcases hy with h | h | h <;> simp [h]
  have hrot (angle : Byte) : decode ⟨.frame, (buildRot a angle).toList⟩ = .ok (.buildRot a angle) := by
    rw [← encode_buildRot]
    exact decode_encode_buildRot a angle
  constructor
  · intro h
    exact (Instr.buildXyz.inj (Except.ok.inj ((hxyz hp).symm.trans (h ▸ hxyz hq)))).2
  · intro h
    exact (Instr.buildRot.inj (Except.ok.inj ((hrot p.angle).symm.trans (h ▸ hrot q.angle)))).2

end Sys2Proof.Machine
end

section
/-! What any error pattern does to a codeword: its weight decides the parities and the corrected nibble, in both
variants; and the same codeword by codeword in a frame (40_hamming_codec.md sections 2, 3 and 6; 42_frame_encoder.md). -/

namespace Sys2Proof.Machine

open Sys2Proof

/-! ### Errors and distances -/

/-- Every byte is a given codeword with an error added. -/
theorem exists_error (c r : Byte) : ∃ e, r = c ^^^ e :=
  ⟨c ^^^ r, by rw [← BitVec.xor_assoc, BitVec.xor_self, BitVec.zero_xor]⟩

/-- The distance of two bytes is the number of one-bits of their difference. -/
theorem bitDistance_eq_weight (a b : Byte) : bitDistance a b = bitDistance (a ^^^ b) 0 := by
  rw [bitDistance, bitDistance, show a ^^^ b ^^^ 0 = a ^^^ b from BitVec.xor_zero]

/-- An error leaves the parity bit as it is when its own bit 0 is clear. -/
theorem parityBit_xor_eq_iff (c e : Byte) : (c ^^^ e).getLsbD 0 = c.getLsbD 0 ↔ e.getLsbD 0 = false := by
  rw [BitVec.getLsbD_xor]
  cases c.getLsbD 0 <;> cases e.getLsbD 0 <;> decide

theorem bitDistance_xor_left (c e : Byte) : bitDistance (c ^^^ e) c = bitDistance e 0 := by
  rw [bitDistance_eq_weight, BitVec.xor_comm c e, BitVec.xor_assoc, BitVec.xor_self, BitVec.xor_zero]

theorem bitDistance_shift_xor_left (c e : Byte) :
    bitDistance ((c ^^^ e) >>> 1) (c >>> 1) = bitDistance (e >>> 1) 0 := by
  rw [BitVec.ushiftRight_xor_distrib, bitDistance_xor_left]

/-- The weight of an error is that of its bits 7 to 1, and one more with the parity bit. -/
theorem weight_eq (e : Byte) : bitDistance e 0 = bitDistance (e >>> 1) 0 + (e.getLsbD 0).toNat := by
  revert e
  decide

theorem weight_eq_zero_iff (e : Byte) : bitDistance e 0 = 0 ↔ e = 0 := by
  revert e
  decide

/-- The one error of the parity bit alone. -/
theorem eq_one_of_parityBit_alone {e : Byte} (hbit : e.getLsbD 0 = true) (hrest : bitDistance (e >>> 1) 0 = 0) :
    e = 1 := by
  revert e
  decide

/-- Of the errors of at most two bits, only none and that of the parity bit alone have syndrome 0. -/
theorem syndrome_eq_zero_iff (v : Variant) (e : Byte) (h : bitDistance e 0 ≤ 2) :
    syndrome v e = 0 ↔ e = 0 ∨ e = 1 := by
  cases v <;> revert e <;> decide

/-- The parities match under an error of an even number of bits. -/
theorem parMatch_eq_even (e : Byte) : parMatch e = decide (bitDistance e 0 % 2 = 0) := by
  revert e
  decide

/-- The decoder corrects an error exactly when it has at most one bit among bits 7 to 1. -/
theorem decn_eq_zero_iff (v : Variant) (e : Byte) : decn v e = 0 ↔ bitDistance (e >>> 1) 0 ≤ 1 := by
  cases v <;> revert e <;> decide

/-- A codeword with an error added decodes to its nibble exactly when the decoder corrects the error. -/
theorem decn_encn_xor_eq_iff (v : Variant) (n : Nibble) (e : Byte) :
    decn v (encn v n ^^^ e) = n ↔ bitDistance (e >>> 1) 0 ≤ 1 := by
  rw [decn_encn_xor, xor_left_eq_self_iff, decn_eq_zero_iff]

/-! ### The code (R103, R104) -/

/-- The parity bit of seven bits is linear in them. -/
theorem withParity_xor (c d : BitVec 7) :
    (c ^^^ d) ++ BitVec.ofBool (computedParity ((c ^^^ d) ++ 0#1)) =
      (c ++ BitVec.ofBool (computedParity (c ++ 0#1))) ^^^ (d ++ BitVec.ofBool (computedParity (d ++ 0#1))) := by
  have hpadded : (c ^^^ d) ++ 0#1 = (c ++ 0#1) ^^^ (d ++ 0#1) := by
    rw [BitVec.xor_append, BitVec.xor_self]
  rw [BitVec.xor_append, BitVec.ofBool_xor_ofBool, hpadded, computedParity_xor]

/-- The encoder is linear: so are the check bits, and the parity of the seven bits. -/
theorem encn_xor (v : Variant) (a b : Nibble) : encn v (a ^^^ b) = encn v a ^^^ encn v b := by
  have hseven : (a ^^^ b) ++ checkBits v (a ^^^ b) = (a ++ checkBits v a) ^^^ (b ++ checkBits v b) := by
    rw [checkBits_xor, BitVec.xor_append]
  rw [encn, hseven]
  exact withParity_xor _ _

/-- The weights of the codewords that are not zero. -/
theorem weight_encn_variantA {a : Nibble} (h : a ≠ 0) :
    4 ≤ bitDistance (encn .a a) 0 ∧ 3 ≤ bitDistance (encn .a a >>> 1) 0 := by
  revert a
  decide

/-! ### The codec's obligations -/

/-- Settles O2, by the table of the encoder in force. -/
theorem encnGivesTheSixteenCodewords : Obligations.EncnGivesTheSixteenCodewords := by
  unfold Obligations.EncnGivesTheSixteenCodewords
  intro n s
  have hentry : encn Config.hammingVariant n = sixteenCodewords[n.toNat] := encn_variantA n
  rw [exec_encn, hentry]
  rfl

/-- Settles O10: the error of the two bits is even, and one of its bits is outside bits 7 to 1 exactly when it is
bit 0. -/
theorem doubleErrorsAreMiscorrected : Obligations.DoubleErrorsAreMiscorrected := by
  unfold Obligations.DoubleErrorsAreMiscorrected
  intro v n j k hjk
  have hweight : ∀ j k : Fin 8, j < k →
      bitDistance ((1#8 <<< j.val) ^^^ (1#8 <<< k.val)) 0 = 2 ∧
      (bitDistance (((1#8 <<< j.val) ^^^ (1#8 <<< k.val)) >>> 1) 0 ≤ 1 ↔ j = 0) := by decide
  obtain ⟨htwo, hparityBit⟩ := hweight j k hjk
  rw [BitVec.xor_assoc, parMatch_encn_xor, parMatch_eq_even, htwo, decn_encn_xor_eq_iff]
  exact ⟨rfl, hparityBit⟩

/-- Settles O11: the distance in bits 7 to 1 is the weight there of the byte's error against the codeword. -/
theorem decnFindsTheNearestCodeword : Obligations.DecnFindsTheNearestCodeword := by
  unfold Obligations.DecnFindsTheNearestCodeword
  intro v r n
  obtain ⟨e, rfl⟩ := exists_error (encn v n) r
  rw [bitDistance_shift_xor_left, ← decn_encn_xor_eq_iff v n, eq_comm]

/-- Settles O12: by linearity the distance of two codewords is the weight of a third, which is not zero. -/
theorem codeIsLinearWithDistanceFour : Obligations.CodeIsLinearWithDistanceFour := by
  unfold Obligations.CodeIsLinearWithDistanceFour
  refine ⟨encn_xor .a, fun a b hab => ?_, by decide, rfl⟩
  have hne : a ^^^ b ≠ 0 := fun h => hab (BitVec.xor_eq_zero_iff.mp h)
  have hdifference : encn .a a = encn .a b ^^^ encn .a (a ^^^ b) := by
    rw [← encn_xor, BitVec.xor_comm a b, ← BitVec.xor_assoc, BitVec.xor_self, BitVec.zero_xor]
  rw [hdifference, bitDistance_xor_left, bitDistance_shift_xor_left]
  exact weight_encn_variantA hne

/-- Settles O13: the syndrome and the parities are those of the error, and together they tell its weight and whether it
is that of the parity bit. -/
theorem syndromeAndParityTellWhatHappened : Obligations.SyndromeAndParityTellWhatHappened := by
  unfold Obligations.SyndromeAndParityTellWhatHappened
  intro v n r hr
  obtain ⟨e, rfl⟩ := exists_error (encn v n) r
  rw [bitDistance_xor_left] at hr ⊢
  have hsplit := weight_eq e
  rw [syndrome_encn_xor, ne_eq, syndrome_eq_zero_iff v e hr, parMatch_encn_xor, parMatch_eq_even, decn_encn_xor_eq_iff,
    ne_eq, parityBit_xor_eq_iff, decide_eq_true_iff, decide_eq_false_iff_not, not_or]
  refine ⟨?noError, ?parityBit, ?oneBit, ?twoBits⟩
  case noError =>
    rintro ⟨rfl | rfl, heven⟩
    · exact BitVec.xor_zero
    · exact absurd heven (by decide)
  case parityBit =>
    rintro ⟨rfl | rfl, hodd⟩
    · exact absurd rfl hodd
    · rfl
  case oneBit =>
    rintro ⟨⟨-, hne⟩, hodd⟩
    have hone : bitDistance e 0 = 1 := by omega
    cases hbit : e.getLsbD 0 with
    | true =>
      rw [hbit, Bool.toNat_true] at hsplit
      exact absurd (eq_one_of_parityBit_alone hbit (by omega)) hne
    | false => exact ⟨hone, rfl, by omega⟩
  case twoBits =>
    rintro ⟨⟨hne, -⟩, heven⟩
    have htwo : bitDistance e 0 = 2 := by
      have := (weight_eq_zero_iff e).not.mpr hne
      omega
    refine ⟨htwo, ?_⟩
    cases hbit : e.getLsbD 0 with
    | true =>
      rw [hbit, Bool.toNat_true] at hsplit
      exact iff_of_true (by omega) nofun
    | false =>
      rw [hbit, Bool.toNat_false] at hsplit
      exact iff_of_false (by omega) (not_not_intro rfl)

/-! ### Nibbles and codewords of a frame (R49, R151, R153) -/

/-- Each codeword of an encoded frame is that of its nibble (R151). -/
theorem encf_getElem (v : Variant) (u : Frame) (j : Fin 32) : (encf v u)[j] = encn v (nibbleAt u j) := by
  simp only [encf, nibbleAt, Fin.getElem_fin, Vector.getElem_ofFn]

theorem nibbleAt_even (u : Frame) (i : Nat) (h : i < 16) : nibbleAt u ⟨2 * i, by omega⟩ = lowNibble u[i] := by
  simp [nibbleAt]

theorem nibbleAt_odd (u : Frame) (i : Nat) (h : i < 16) : nibbleAt u ⟨2 * i + 1, by omega⟩ = highNibble u[i] := by
  have hdiv : (2 * i + 1) / 2 = i := by omega
  simp [nibbleAt, hdiv]

/-- Each nibble of a decoded frame is that of its codeword (R153). -/
theorem nibbleAt_decf (v : Variant) (r : EncFrame) (j : Fin 32) : nibbleAt (decf v r) j = decn v r[j] := by
  obtain ⟨j, hj⟩ := j
  rcases Nat.even_or_odd' j with ⟨i, rfl | rfl⟩
  · rw [nibbleAt_even _ i (by omega), decf_lane _ _ i (by omega), decb, lowNibble_joinNibbles]
    rfl
  · rw [nibbleAt_odd _ i (by omega), decf_lane _ _ i (by omega), decb, highNibble_joinNibbles]
    rfl

/-- A frame is determined by its nibbles. -/
theorem frame_eq_of_nibbles {u w : Frame} (h : ∀ j, nibbleAt u j = nibbleAt w j) : u = w := by
  ext1 i hi
  apply byte_eq_of_nibbles
  · rw [← nibbleAt_even u i hi, ← nibbleAt_even w i hi, h]
  · rw [← nibbleAt_odd u i hi, ← nibbleAt_odd w i hi, h]

/-! ### The frame codec's obligations -/

/-- Settles O22, nibble by nibble. -/
theorem frameRoundTripInBothVariants : Obligations.FrameRoundTripInBothVariants := by
  unfold Obligations.FrameRoundTripInBothVariants
  intro v u
  constructor
  · refine frame_eq_of_nibbles fun j => ?_
    rw [nibbleAt_decf, encf_getElem, decn_encn]
  · intro j
    have hlane : (decfParity (encf v u))[j] = parMatch (encf v u)[j] := decfParity_getElem _ j j.isLt
    rw [hlane, encf_getElem, parMatch_encn]

/-- A codeword of a frame with at most one bit wrong gives its nibble, and its parities tell whether it is wrong. -/
theorem codeword_singleError (v : Variant) (n : Nibble) {r : Byte} (h : bitDistance r (encn v n) ≤ 1) :
    decn v r = n ∧ parMatch r = decide (r = encn v n) := by
  obtain ⟨e, rfl⟩ := exists_error (encn v n) r
  rw [bitDistance_xor_left] at h
  have hsplit := weight_eq e
  refine ⟨(decn_encn_xor_eq_iff v n e).mpr (by omega), ?_⟩
  rw [parMatch_encn_xor, parMatch_eq_even, decide_eq_decide, xor_left_eq_self_iff, ← weight_eq_zero_iff]
  omega

/-- A codeword with two of bits 7 to 1 wrong gives a wrong nibble, and its parities match. -/
theorem codeword_doubleError (v : Variant) (n : Nibble) {r : Byte} (h : bitDistance r (encn v n) = 2)
    (hbit : r.getLsbD 0 = (encn v n).getLsbD 0) : decn v r ≠ n ∧ parMatch r = true := by
  obtain ⟨e, rfl⟩ := exists_error (encn v n) r
  rw [bitDistance_xor_left] at h
  rw [parityBit_xor_eq_iff] at hbit
  have hsplit := weight_eq e
  rw [hbit, Bool.toNat_false] at hsplit
  refine ⟨(decn_encn_xor_eq_iff v n e).not.mpr (by omega), ?_⟩
  rw [parMatch_encn_xor, parMatch_eq_even, h]
  rfl

/-- Settles O23: every nibble and every parity outcome of a decoded frame is that of its own codeword. -/
theorem frameErrorsAreCorrectedLaneByLane : Obligations.FrameErrorsAreCorrectedLaneByLane := by
  unfold Obligations.FrameErrorsAreCorrectedLaneByLane
  intro v u r
  have hparity (j : Fin 32) : (decfParity r)[j] = parMatch r[j] := decfParity_getElem r j j.isLt
  have hsingle (j : Fin 32) (h : bitDistance r[j] (encf v u)[j] ≤ 1) :
      nibbleAt (decf v r) j = nibbleAt u j ∧ (decfParity r)[j] = decide (r[j] = (encf v u)[j]) := by
    rw [nibbleAt_decf, hparity]
    rw [encf_getElem] at h ⊢
    exact codeword_singleError v _ h
  refine ⟨fun hall => ?_, fun j h hbit => ?_, hsingle⟩
  · exact ⟨frame_eq_of_nibbles fun j => (hsingle j (hall j)).1, fun j => (hsingle j (hall j)).2⟩
  · rw [nibbleAt_decf, hparity]
    rw [encf_getElem] at h hbit
    exact codeword_doubleError v _ h hbit

end Sys2Proof.Machine
end

section
/-! Whole key presses, repeated keys, key rows outside IDLE and the wait on a full queue (43_controller_fsm.md R165 to
R196; 30_encoding.md R97). -/

namespace Sys2Proof.Machine

open Sys2Proof

/-! ### Key rows outside IDLE (R97) -/

/-- Outside IDLE a key event is the Controller's step (log entry 4). -/
theorem exec_keyEvent_other {p : Key × Instr} (hp : p ∈ keyEvents) {s : State} (hc : s.ctrl ≠ .idle) :
    exec p.2 s = controllerStep s := by
  rw [exec_keyEvent hp, keyLine_other hc]

theorem selectedCtrlRow_displaying {s : State} (hc : s.ctrl = .displaying) : selectedCtrlRow s = .cDisplaying := by
  simp [selectedCtrlRow, hc]

theorem keyEffect_unrecognised {k : Key} (hk : Key.recognised k = false) (a : Act) : keyEffect k a = a := by
  rcases (recognised_eq_false_iff k).mp hk with rfl | rfl | rfl <;> rfl

/-- Settles O26: in DISPLAYING the row selected is `C_DISPLAYING`, by whether the key is recognised. -/
theorem keyLinesOutsideIdleRunTheControllersStep : Obligations.KeyLinesOutsideIdleRunTheControllersStep := by
  unfold Obligations.KeyLinesOutsideIdleRunTheControllersStep
  intro p hp s
  have hrow (hc : s.ctrl ≠ .idle) : exec p.2 s = exec (selectedCtrlRow s) s := by
    rw [exec_keyEvent_other hp hc, exec_selectedCtrlRow]
  refine ⟨hrow, fun hc hlast => ?_⟩
  rw [hrow (by simp [hc]), selectedCtrlRow_displaying hc, ← hlast]
  have hmem : s.lastKey ∈ [Key.unrecD, .unrecE, .unrecF] ↔ Key.recognised s.lastKey = false := by
    rw [recognised_eq_false_iff]
    simp
  cases hk : Key.recognised s.lastKey with
  | true =>
    rw [if_neg (by simp [hmem, hk])]
    exact exec_cDisplaying_recognised hc hk
  | false =>
    rw [if_pos (hmem.mpr hk), List.append_nil, keyEffect_unrecognised hk]
    exact exec_cDisplaying_unrecognised hc hk

/-- Settles O41, from the refusals of the eight rows. -/
theorem rowsNotSelectedAreRefused : Obligations.RowsNotSelectedAreRefused := by
  unfold Obligations.RowsNotSelectedAreRefused
  intro s
  exact ⟨execCInit_refused, execCIdle_refused, execCDisplaying_refused, execCTransmitting_refused,
    execLInit_refused, execLIdle_refused, execLEncode_refused, execLTransmit_refused⟩

/-! ### A whole key press (R196) -/

@[simp] theorem chain_next (s : State) (k : State → Host.Outcome State Fault Refusal) : chain (.next s) k = k s := rfl

/-- The state after a key press from IDLE that pushed `f`. -/
def State.pressed (s : State) (k : Key) (f : Frame) : State :=
  { s with
    lastKey := k
    keyAnswer := none
    act := keyEffect k s.act
    rendered := s.rendered ++ [displayCommand k (keyEffect k s.act)]
    queue := s.queue ++ [f]
    waitLeft := Config.queueWait s.keysAccepted
    keysAccepted := s.keysAccepted + 1 }

/-- From IDLE with room, a press is accepted, shown and pushed. -/
theorem pressKey_idle {k : Key} {i : Instr} (hi : (k, i) ∈ keyEvents) {s : State} {f : Frame} (hc : s.ctrl = .idle)
    (hq : s.queue.length < 10) (hf : messageFor s.senderAddr (keyEffect k s.act) k = some f) :
    pressKey i s = .next (s.pressed k f) := by
  have haccept : exec i s = .next ((s.setKeyAnswer none).acceptKey k) := by
    rw [exec_keyEvent hi, keyLine_idle hc]
  obtain ⟨hdisplay, hpush⟩ := exec_display_then_push (s := (s.setKeyAnswer none).acceptKey k) rfl rfl rfl hf
  rw [pressKey, haccept, chain_next, hdisplay, chain_next, hpush hq]
  obtain ⟨⟩ := s
  cases hc
  rfl

/-- Settles O38. -/
theorem keyPressRunsToItsFrame : Obligations.KeyPressRunsToItsFrame := by
  unfold Obligations.KeyPressRunsToItsFrame
  exact fun _ hp _ _ hc hq hf => pressKey_idle hp hc hq hf

/-- Two toggles leave `act` as it was (R186). -/
theorem keyEffect_k0_twice (a : Act) : keyEffect .k0 (keyEffect .k0 a) = a := by
  simp [keyEffect, effectK0]

/-- A K0 press from IDLE with room sends the VAC frame of the new value (R186). -/
theorem pressKey_k0 {s : State} {on : Bool} (hon : on = !s.act.on) (hc : s.ctrl = .idle) (hq : s.queue.length < 10) :
    pressKey .k0 s = .next (s.pressed .k0 (buildVac s.senderAddr on)) := by
  subst hon
  exact pressKey_idle (by decide) hc hq rfl

/-- Settles O39: the second press starts from the state of the first, with one frame more queued and the actuator the
other way. -/
theorem twoK0PressesRestoreTheActuator : Obligations.TwoK0PressesRestoreTheActuator := by
  unfold Obligations.TwoK0PressesRestoreTheActuator
  intro s hc hq
  have hkinds : [buildVac s.senderAddr (!s.act.on), buildVac s.senderAddr s.act.on] =
      if s.act.on then [buildVoff s.senderAddr, buildVon s.senderAddr]
      else [buildVon s.senderAddr, buildVoff s.senderAddr] := by
    cases s.act.on <;> rfl
  have hroom : (s.pressed .k0 (buildVac s.senderAddr (!s.act.on))).queue.length < 10 := by
    rw [State.pressed, List.length_append, List.length_singleton]
    omega
  have hsecond := pressKey_k0 (s := s.pressed .k0 _) (Bool.not_not s.act.on).symm hc hroom
  refine ⟨[displayCommand .k0 (keyEffect .k0 s.act), displayCommand .k0 s.act], rfl, ?_⟩
  rw [pressKey_k0 rfl hc (by omega), chain_next, hsecond, ← hkinds]
  simp [State.pressed, keyEffect_k0_twice]

/-! ### Repeated keys (R184, R185) -/

/-- Settles O40, by induction on the number of presses. -/
theorem repeatedKeysStopAtTheirCeilings : Obligations.RepeatedKeysStopAtTheirCeilings := by
  unfold Obligations.RepeatedKeysStopAtTheirCeilings
  intro n a
  constructor
  · intro hz
    induction n with
    | zero => simp [hz]
    | succ n ih =>
      rw [Function.iterate_succ_apply', effectKB_z_toNat, ih]
      split <;> omega
  · intro hangle
    induction n with
    | zero => simp [hangle]
    | succ n ih =>
      rw [Function.iterate_succ_apply', effectKC_angle_toNat, ih]
      split <;> omega

/-! ### The wait on a full queue (R190) -/

theorem run_step {s t : State} (h : step s = .next t) (k : Nat) :
    Host.Core.run core (k + 1) s = Host.Core.run core k t :=
  run_succ_of_step (M := core) h k

/-- A Controller turn outside IDLE is the Controller's step, whatever key the keypad would answer (R97). -/
theorem step_ctrlTurn {s : State} {key : Option Key} {expired : Bool} {rest : List Stimulus}
    (h : s.stimulus = .ctrl key expired :: rest) (hc : s.ctrl ≠ .idle) :
    step s = controllerStep (presentInputs (.ctrl key expired) (s.setStimulus rest)) := by
  cases key with
  | none =>
    rw [step_placed h (decode_ctrlWord expired _)]
    exact exec_selectedCtrlRow _
  | some k =>
    have hk : (k, decodeKey k.code) ∈ keyEvents := mem_keyEvents_iff.mpr rfl
    rw [step_placed h (decode_keyEventWord hk expired _)]
    exact exec_keyEvent_other hk hc

theorem controllerStep_full {s : State} (hc : s.ctrl = .transmitting) (hq : 10 ≤ s.queue.length)
    (hk : Key.recognised s.lastKey = true) : controllerStep s = .next s.waitOrDrop := by
  obtain ⟨f, hf⟩ : ∃ f, messageFor s.senderAddr s.act s.lastKey = some f := by
    refine Option.ne_none_iff_exists'.mp fun hnone => ?_
    rw [messageFor_eq_none_iff, hk] at hnone
    cases hnone
  rw [controllerStep, hc]
  exact execCTransmitting_full hc hf hq

/-- A Controller turn with the queue full waits, which makes the wait one shorter, or drops the frame (R190). -/
theorem step_ctrlTurn_full {s : State} {key : Option Key} {expired : Bool} {rest : List Stimulus}
    (h : s.stimulus = .ctrl key expired :: rest) (hc : s.ctrl = .transmitting) (hq : s.queue.length = 10)
    (hk : Key.recognised s.lastKey = true) :
    (∃ w, s.waitLeft = w + 1 ∧
      step s = .next ((presentInputs (.ctrl key expired) (s.setStimulus rest)).setWaitLeft w)) ∨
    step s = .next ((presentInputs (.ctrl key expired) (s.setStimulus rest)).setCtrl .idle) := by
  rw [step_ctrlTurn h (by simp [hc]),
    controllerStep_full (s := presentInputs (.ctrl key expired) (s.setStimulus rest)) hc hq.ge hk]
  rcases (presentInputs (.ctrl key expired) (s.setStimulus rest)).waitOrDrop_cases with ⟨w, -, hw, e⟩ | ⟨-, e⟩
  · exact .inl ⟨w, hw, congrArg _ e⟩
  · exact .inr (congrArg _ e)

/-- `t` is `s` gone to IDLE with its frame dropped: what R190 leaves alone is as it was. -/
def State.DroppedTo (s t : State) : Prop :=
  t.ctrl = .idle ∧ t.queue = s.queue ∧ t.act = s.act ∧ t.lastKey = s.lastKey ∧ t.sent = s.sent ∧
    t.rendered = s.rendered

/-- Each turn that waits makes the wait one shorter, so one turn more than the count drops the frame. -/
theorem run_ctrlTurns_drops {turns : List Stimulus} {s : State} (hplaced : s.stimulus = turns)
    (hturns : ∀ c ∈ turns, ∃ k e, c = .ctrl k e) (hlength : turns.length = s.waitLeft + 1)
    (hc : s.ctrl = .transmitting) (hq : s.queue.length = 10) (hk : Key.recognised s.lastKey = true) :
    ∃ (n : Nat) (t : State), n ≤ s.waitLeft + 1 ∧ Host.Core.run core n s = .next t ∧ s.DroppedTo t := by
  induction turns generalizing s with
  | nil => cases hlength
  | cons c rest ih =>
    obtain ⟨⟨key, expired, rfl⟩, hrest⟩ := List.forall_mem_cons.mp hturns
    rcases step_ctrlTurn_full hplaced hc hq hk with ⟨w, hw, hwait⟩ | hdrop
    · rw [hw] at hlength ⊢
      obtain ⟨n, t, hn, hrun, ht⟩ :=
        ih (s := (presentInputs (.ctrl key expired) (s.setStimulus rest)).setWaitLeft w) rfl hrest
          (Nat.succ.inj hlength) hc hq hk
      exact ⟨n + 1, t, Nat.succ_le_succ hn, (run_step hwait n).trans hrun, ht⟩
    · exact ⟨1, _, by omega, run_step hdrop 0, rfl, rfl, rfl, rfl, rfl, rfl⟩

/-- Settles O37: a full queue waits or drops, and the turns that can wait are counted down. -/
theorem fullQueueWaitsOrDrops : Obligations.FullQueueWaitsOrDrops := by
  unfold Obligations.FullQueueWaitsOrDrops
  intro s hc hq hlast
  have hk : Key.recognised s.lastKey = true := by
    refine Bool.eq_true_of_not_eq_false fun hunrec => hlast ?_
    simpa using (recognised_eq_false_iff _).mp hunrec
  have hrow : exec .cTransmitting s = .next s.waitOrDrop := by
    rw [← controllerStep_full hc hq.ge hk, controllerStep, hc]
    rfl
  refine ⟨fun n he hw => ?wait, fun h => ?drop, fun turns hturns hlength => ?bounded⟩
  case wait =>
    rw [hrow, State.waitOrDrop_succ he hw]
    rfl
  case drop =>
    rw [hrow, h.elim State.waitOrDrop_expired State.waitOrDrop_zero]
    rfl
  case bounded => exact run_ctrlTurns_drops (s := { s with stimulus := turns }) rfl hturns hlength hc hq hk

end Sys2Proof.Machine
end

section
/-! The reset event, the reads of unwritten buffers, and how the Radio Link drains the queue (10_state.md R40, R41;
44_radio_link_fsm.md R212 to R222). -/

namespace Sys2Proof.Machine

open Sys2Proof

/-- Settles O48: the reset values of the elements, written out. -/
theorem resetPutsEveryElementToItsResetValue : Obligations.ResetPutsEveryElementToItsResetValue := by
  unfold Obligations.ResetPutsEveryElementToItsResetValue
  intro s
  rw [exec_reset, resetElements]
  rfl

/-! ### Reads of unwritten bytes (R41) -/

/-- A block with an unwritten byte is not read: the fault names an unwritten byte of it. -/
theorem Memory.readBlock_unwritten (buf : Buffer) {m : Memory} {n : Nat}
    (h : ∃ a : Fin n, Memory.read m a.val = none) :
    ∃ a : Fin n, Memory.read m a.val = none ∧ Memory.readBlock buf m 0 n = .error (.unwritten buf a.val) := by
  cases hread : Memory.readBlock buf m 0 n with
  | ok v =>
    obtain ⟨a, ha⟩ := h
    have hwritten := Memory.readBlock_ok.mp hread a a.isLt
    rw [Nat.zero_add, ha] at hwritten
    cases hwritten
  | error e =>
    obtain ⟨i, hi, hnone, rfl⟩ := Memory.readBlock_error hread
    rw [Nat.zero_add] at hnone ⊢
    exact ⟨⟨i, hi⟩, hnone, rfl⟩

/-- Settles O45: the row stops with the fault of its read. -/
theorem unwrittenBuffersFault : Obligations.UnwrittenBuffersFault := by
  unfold Obligations.UnwrittenBuffersFault
  intro s
  constructor
  · intro hl hmissing
    obtain ⟨a, hnone, hread⟩ := Memory.readBlock_unwritten .active hmissing
    exact ⟨a, hnone, execLEncode_fault hl (s.memRead_active.trans hread)⟩
  · intro hl hmissing
    obtain ⟨a, hnone, hread⟩ := Memory.readBlock_unwritten .encoded hmissing
    exact ⟨a, hnone, execLTransmit_fault hl (s.memRead_encoded.trans hread)⟩

/-! ### Draining the queue (R222) -/

/-- The state after `L_IDLE` has taken the head `f` of the queue, with `q` left (R212). -/
def State.frameTaken (s : State) (f : Frame) (q : List Frame) : State :=
  ((s.setQueue q).setActive (Memory.writeList s.active 0 f.toList)).setLink .encode

theorem State.frameTaken_active (s : State) (f : Frame) (q : List Frame) :
    (s.frameTaken f q).active = Memory.writeList s.active 0 f.toList := rfl

/-- The state after `L_ENCODE` has written `e` (R213). -/
def State.frameEncoded (s : State) (e : EncFrame) : State :=
  (s.setEncoded (Memory.writeList s.encoded 0 e.toList)).setLink .transmit

theorem State.frameEncoded_encoded (s : State) (e : EncFrame) :
    (s.frameEncoded e).encoded = Memory.writeList s.encoded 0 e.toList := rfl

/-- The state after `L_TRANSMIT` has sent `e` (R214). -/
def State.frameSent (s : State) (e : EncFrame) : State :=
  ((s.setSent (s.sent ++ [e])).setJoinInProgress false).setLink .idle

section
variable {s : State} {rest : List Stimulus}

/-- A placed Radio Link turn runs the row that `link_state` selects (R87). -/
theorem step_linkTurn (h : s.stimulus = .link :: rest) : step s = exec (selectedLinkRow s) (s.setStimulus rest) :=
  step_placed h (decode_linkWord _)

/-- A turn in IDLE with a frame queued takes it (R212). -/
theorem step_linkTurn_idle {f : Frame} {q : List Frame} (h : s.stimulus = .link :: rest) (hl : s.link = .idle)
    (hj : s.joinPending = false) (hq : s.queue = f :: q) :
    step s = .next ((s.setStimulus rest).frameTaken f q) := by
  rw [step_linkTurn h, selectedLinkRow, hl]
  exact execLIdle_frame (s := s.setStimulus rest) hl hj hq

/-- A turn in ENCODE encodes the frame taken (R213). -/
theorem step_linkTurn_encode {m : Memory} {f : Frame} (h : s.stimulus = .link :: rest) (hl : s.link = .encode)
    (hf : s.active = Memory.writeList m 0 f.toList) :
    step s = .next ((s.setStimulus rest).frameEncoded (encf Config.hammingVariant f)) := by
  rw [step_linkTurn h, selectedLinkRow, hl]
  exact execLEncode_eq (s := s.setStimulus rest) hl (State.memRead_active_written hf)

/-- A turn in TRANSMIT sends what was encoded (R214). -/
theorem step_linkTurn_transmit {m : Memory} {e : EncFrame} (h : s.stimulus = .link :: rest) (hl : s.link = .transmit)
    (he : s.encoded = Memory.writeList m 0 e.toList) :
    step s = .next ((s.setStimulus rest).frameSent e) := by
  rw [step_linkTurn h, selectedLinkRow, hl]
  exact execLTransmit_eq (s := s.setStimulus rest) hl (State.memRead_encoded_written he)

end

/-- `t` is `s` with the frames `fs` sent and the Radio Link in IDLE again: `q` is left queued and `rest` of the choices,
and what the Controller owns is as it was. -/
structure State.DrainedTo (s t : State) (fs q : List Frame) (rest : List Stimulus) : Prop where
  sent : t.sent = s.sent ++ fs.map (encf Config.hammingVariant)
  queue : t.queue = q
  link : t.link = .idle
  joinPending : t.joinPending = false
  stimulus : t.stimulus = rest
  act : t.act = s.act
  ctrl : t.ctrl = s.ctrl
  lastKey : t.lastKey = s.lastKey

/-- Three turns take the head of the queue, encode it and send it. -/
theorem three_linkTurns_send {s : State} {f : Frame} {q : List Frame} {rest : List Stimulus}
    (hplaced : s.stimulus = .link :: .link :: .link :: rest) (hl : s.link = .idle) (hj : s.joinPending = false)
    (hq : s.queue = f :: q) :
    ∃ t : State, (∀ n, Host.Core.run core (n + 3) s = Host.Core.run core n t) ∧ s.DrainedTo t [f] q rest := by
  have htake := step_linkTurn_idle hplaced hl hj hq
  have hencode := step_linkTurn_encode (rest := .link :: rest) rfl rfl
    (State.frameTaken_active (s.setStimulus (.link :: .link :: rest)) f q)
  have hsend := step_linkTurn_transmit (rest := rest) rfl rfl (State.frameEncoded_encoded
    (((s.setStimulus (.link :: .link :: rest)).frameTaken f q).setStimulus (.link :: rest))
    (encf Config.hammingVariant f))
  have hrun (n : Nat) := (run_step htake (n + 2)).trans ((run_step hencode (n + 1)).trans (run_step hsend n))
  refine ⟨_, hrun, ?_⟩
  constructor <;> simp [State.frameSent, State.frameEncoded, State.frameTaken, hj]

theorem State.DrainedTo.trans {s t u : State} {fs gs p q : List Frame} {ms ns : List Stimulus}
    (hst : s.DrainedTo t fs p ms) (htu : t.DrainedTo u gs q ns) : s.DrainedTo u (fs ++ gs) q ns :=
  { htu with
    sent := by rw [htu.sent, hst.sent, List.map_append, List.append_assoc]
    act := htu.act.trans hst.act
    ctrl := htu.ctrl.trans hst.ctrl
    lastKey := htu.lastKey.trans hst.lastKey }

/-- Three turns for each of the first `k` frames, by induction on `k`. -/
theorem run_linkTurns_drain {k : Nat} {s : State} {rest : List Stimulus}
    (hplaced : s.stimulus = List.replicate (3 * k) .link ++ rest) (hl : s.link = .idle) (hj : s.joinPending = false)
    (hk : k ≤ s.queue.length) :
    ∃ t : State, Host.Core.run core (3 * k) s = .next t ∧ s.DrainedTo t (s.queue.take k) (s.queue.drop k) rest := by
  induction k generalizing s with
  | zero => exact ⟨s, rfl, by simp, by simp, hl, hj, by simpa using hplaced, rfl, rfl, rfl⟩
  | succ k ih =>
    obtain ⟨f, q, hq⟩ : ∃ f q, s.queue = f :: q := List.exists_cons_of_length_pos (by omega)
    obtain ⟨t, hrun, ht⟩ := three_linkTurns_send hplaced hl hj hq
    obtain ⟨u, hrunRest, hu⟩ := ih ht.stimulus ht.link ht.joinPending (by simpa [ht.queue, hq] using hk)
    rw [ht.queue] at hu
    rw [hq]
    exact ⟨u, (hrun (3 * k)).trans hrunRest, ht.trans hu⟩

/-- Settles O46. -/
theorem queueDrainsInThreeStepsPerFrame : Obligations.QueueDrainsInThreeStepsPerFrame := by
  unfold Obligations.QueueDrainsInThreeStepsPerFrame
  intro s k rest hl hj hk
  obtain ⟨t, hrun, ht⟩ := run_linkTurns_drain
    (s := { s with stimulus := List.replicate (3 * k) .link ++ rest }) rfl hl hj hk
  exact ⟨t, hrun, ht.sent, ht.queue, ht.link, ht.stimulus, ht.act, ht.ctrl, ht.lastKey⟩

end Sys2Proof.Machine
end
